-- ==== Sys2Proof/Word.lean ====
section
/-! DEFINITION. The word types of the machine and its register numbers. -/

namespace Sys2Proof

/-- One byte of data memory or of program text (rule R40). -/
abbrev Byte := BitVec 8

/-- The 32-bit operand of the ALU and JMP32 classes, and the `imm` field (rules R5, R21). -/
abbrev Word32 := BitVec 32

/-- A register's value and a data address: 64 bits (rule R5). -/
abbrev Word := BitVec 64

/-- A register number: R0 to R10 (rule R20). -/
abbrev Reg := Fin 11

end Sys2Proof
end

