-- ==== Sys2Proof/Config.lean ====
section
/-! DEFINITION. What a platform fixes for a run: the parameters of Table P (rule R8), and the free values of
what those parameters leave open. -/

namespace Sys2Proof

/-- `HOST_ENDIAN` (rule R6). -/
inductive Endian where
  | little
  | big
deriving DecidableEq, Repr

/-- The seven conformance groups (rule R2). -/
inductive Group where
  | base32
  | base64
  | atomic32
  | atomic64
  | divmul32
  | divmul64
  | packet
deriving DecidableEq, Repr

/-- One 64-bit slot of `PROGRAM`: its bytes in increasing address order, `b0` lowest (rules R10, R60, R61). -/
structure Slot where
  b0 : Byte
  b1 : Byte
  b2 : Byte
  b3 : Byte
  b4 : Byte
  b5 : Byte
  b6 : Byte
  b7 : Byte
deriving DecidableEq, Repr

/-- The kind of an access, third argument of `ACCESSIBLE` (rule R44). -/
inductive AccessKind where
  | read
  | write
  | atomic
deriving DecidableEq, Repr

/-- One line of the platform predicate `ACCESSIBLE(addr, n, kind)` (rule R44): accesses of this kind and size are
admitted at every address from `first` to `last`. The predicate is the union of its lines (log entry 14). -/
structure Grant where
  kind  : AccessKind
  size  : Nat
  first : Word
  last  : Word
deriving DecidableEq, Repr

/-- The lines that admit every access lying wholly between `first` and `last` (rules R41, R44). -/
def Grant.region (first last : Word) : List Grant :=
  [⟨.read, 1, first, last⟩, ⟨.read, 2, first, last - 1⟩, ⟨.read, 4, first, last - 3⟩, ⟨.read, 8, first, last - 7⟩,
   ⟨.write, 1, first, last⟩, ⟨.write, 2, first, last - 1⟩, ⟨.write, 4, first, last - 3⟩, ⟨.write, 8, first, last - 7⟩,
   ⟨.atomic, 4, first, last - 3⟩, ⟨.atomic, 8, first, last - 7⟩]

/-- `MISALIGNED` (rule R43): what a misaligned ordinary access does. -/
inductive Misaligned where
  | fault
  | perform
deriving DecidableEq, Repr

/-! The platform's language (log entry 8): expressions over the registers and memory a relation runs on, and relations
between a machine state before and after. -/

/-- The two-operand functions of an expression: arithmetic, logic and shifts as the ALU64 instructions have them, and
comparisons that give 1 or 0. -/
inductive PlatformOp where
  | add
  | sub
  | mul
  | div
  | mod
  | and
  | or
  | xor
  | shl
  | shr
  | sar
  | eq
  | ltUnsigned
  | ltSigned
deriving DecidableEq, Repr, Inhabited

/-- An expression of the platform: a 64-bit value, or no value. An operand without a value gives no value. -/
inductive PlatformExpr where
  /-- No value: what a register is left with that a helper makes unreadable (rule R251). -/
  | absent
  | const (v : Word)
  | reg (r : Reg)
  /-- A variable of the relation's own; it holds no value until it is set. -/
  | var (k : Nat)
  /-- The counter `ticks` (log entry 11). -/
  | ticks
  /-- The `n` bytes at an address, in the host's byte order. -/
  | load (n : Nat) (ea : PlatformExpr)
  /-- A value left open: a free value of Config, one for each key. -/
  | free (key : PlatformExpr)
  | op (o : PlatformOp) (a b : PlatformExpr)
  /-- 1 if the operand has a value, else 0. -/
  | holds (e : PlatformExpr)
deriving DecidableEq, Repr, Inhabited

/-- A relation between the registers and memory before and after (rules R8, R251, D14; log entry 8). It relates a state
to any number of states, none included. -/
inductive HelperRel where
  /-- Each state to itself. -/
  | skip
  /-- No state to any. -/
  | fail
  /-- `x[r]` becomes the expression's value, or holds no value where it has none. -/
  | setReg (r : Reg) (e : PlatformExpr)
  | setVar (k : Nat) (e : PlatformExpr)
  /-- The low `8n` bits of `v` go to the `n` bytes at `ea`. -/
  | store (n : Nat) (ea v : PlatformExpr)
  /-- Memory becomes a free memory of Config. -/
  | anyMem
  /-- Each state in which the expression has a value other than 0 to itself. -/
  | test (c : PlatformExpr)
  /-- The variable takes every value from 0 to `last`. -/
  | pick (k : Nat) (last : PlatformExpr)
  /-- One relation after another. -/
  | seq (a b : HelperRel)
  /-- One relation or another. -/
  | either (a b : HelperRel)
  /-- A relation repeated `count` times. -/
  | loop (count : PlatformExpr) (body : HelperRel)
deriving DecidableEq, Repr, Inhabited

/-- `CALL_ABI` as data (rule R8, D13; log entry 9): the registers a frame saves and the return restores, and the
registers the call and the return set besides, all from the state before. `bare` has all three empty. -/
structure CallAbi where
  saved    : List Reg
  onCall   : List (Reg × PlatformExpr)
  onReturn : List (Reg × PlatformExpr)
deriving DecidableEq, Repr

/-- The decided default of `CALL_ABI`: nothing (Table P). -/
def CallAbi.bare : CallAbi := { saved := [], onCall := [], onReturn := [] }

/-- What the environment does in one step (rules R45, R48, R420; log entries 10, 12): the bytes it writes before the
instruction is decoded, then what it makes of memory as a relation, and, should the instruction make a misaligned
access, the order of its bytes with what the environment writes just before each of them. -/
structure EnvTurn where
  before : List Host.Cell
  act    : HelperRel
  order  : List (Nat × List Host.Cell)
deriving DecidableEq, Repr, Inhabited

/-- The turns of the environment after those it lists: none, a list of turns over and over, or turns left open, which are
free values of Config (log entry 10). -/
inductive EnvRest where
  | silent
  | cycle (turns : List EnvTurn)
  | free
deriving DecidableEq, Repr

/-- `ENVIRONMENT` (rules R8, R48; log entry 10): its turn at each value of the counter `ticks`, without end. -/
structure Environment where
  turns : List EnvTurn
  rest  : EnvRest
deriving DecidableEq, Repr

/-- The decided default of `ENVIRONMENT`: none, a single agent (Table P). -/
def Environment.alone : Environment := { turns := [], rest := .silent }

/-- The parameters of a run: Table P (rule R8), with `HOST_ENDIAN` (rule R6) and `GROUPS` (rule R7). Plain data; no
instruction changes them (Table S). -/
structure Params where
  /-- `PROGRAM`. -/
  program      : List Slot
  /-- `HOST_ENDIAN`. -/
  hostEndian   : Endian
  /-- `GROUPS`. -/
  groups       : List Group
  /-- `ENTRY_PC`. -/
  entryPc      : Int
  /-- `ENTRY_REGS`: the value of the first pair with the register's number. -/
  entryRegs    : List (Reg × Word)
  /-- `ACCESSIBLE`. -/
  accessible   : List Grant
  /-- `MISALIGNED`. -/
  misaligned   : Misaligned
  /-- `HELPERS`. -/
  helpers      : List (Word32 × HelperRel)
  /-- `BTF_HELPERS`. -/
  btfHelpers   : List (Word32 × HelperRel)
  /-- `MAP_BY_FD`. -/
  mapByFd      : List (Word32 × Word)
  /-- `MAP_BY_IDX`. -/
  mapByIdx     : List (Word32 × Word)
  /-- `MAP_VAL`. -/
  mapVal       : List (Word × Word)
  /-- `VAR_ADDR`. -/
  varAddr      : List (Word32 × Word)
  /-- `CODE_ADDR(pc, offset)`. -/
  codeAddr     : List ((Int × Int) × Word)
  /-- `MAX_CALL_DEPTH`; `none` is unbounded. -/
  maxCallDepth : Option Nat
  /-- `CALL_ABI`. -/
  callAbi      : CallAbi
  /-- `ENVIRONMENT`. -/
  environment  : Environment
deriving DecidableEq, Repr

/-- The parameters of the reset state: the decided defaults of Table P; where it has none, the values of log entries
1 (`ENTRY_REGS`), 2 (`HOST_ENDIAN`), 3 (`ACCESSIBLE`) and 5 (`PROGRAM`). -/
def Params.default : Params where
  program      := []
  hostEndian   := .little
  groups       := [.base32, .base64, .atomic32, .atomic64, .divmul32, .divmul64]
  entryPc      := 0
  entryRegs    := [(0, 0), (1, 0), (2, 0), (3, 0), (4, 0), (5, 0), (6, 0), (7, 0), (8, 0), (9, 0), (10, 0)]
  accessible   := Grant.region 0#64 0xffffffffffffffff#64
  misaligned   := .fault
  helpers      := []
  btfHelpers   := []
  mapByFd      := []
  mapByIdx     := []
  mapVal       := []
  varAddr      := []
  codeAddr     := []
  maxCallDepth := none
  callAbi      := CallAbi.bare
  environment  := Environment.alone

/-- Where a free value arises: a helper call by its id, a local call or return under a `CALL_ABI`, or the environment. -/
inductive FreeSite where
  | helper (id : Word32)
  | btfHelper (id : Word32)
  | call
  | ret
  | environment
deriving DecidableEq, Repr

/-- FREE VALUE (log entry 8): a value, or no value, that a platform's relation or convention leaves open. A function of
the site, the counter `ticks`, the registers and memory before, and a key. -/
opaque Config.freeWord : FreeSite → Nat → Vector (Option Word) 11 → List Host.Cell → Word → Option Word

/-- FREE VALUE (log entry 8): the bytes of memory after a relation that leaves them open. -/
opaque Config.freeMem : FreeSite → Nat → Vector (Option Word) 11 → List Host.Cell → List Host.Cell

/-- FREE VALUE (log entry 8): which of the states a relation relates to is taken (rule R251: choose). -/
opaque Config.freePick : FreeSite → Nat → Vector (Option Word) 11 → List Host.Cell → Nat

/-- FREE VALUE (log entry 10): the turns of an environment that leaves them open. -/
opaque Config.freeTurn : Nat → EnvTurn

end Sys2Proof
end

