-- ==== Sys2Proof/Machine/Operands.lean ====
section
/-! DEFINITION. The operand forms and the arithmetic of the instructions, on bit vectors alone: ALU functions (rules
R100, R140), shift amounts, sign extension (R12), byte order (R13, R42) and address formation (R40). -/

namespace Sys2Proof.Machine

/-- `w[i]`: the low 32 bits of a register's value (rule R21). -/
def low32 (v : Word) : Word32 := v.setWidth 32

/-- `zext_64(r)` of a 32-bit result (rules R21, R100). -/
def zext64 (r : Word32) : Word := r.setWidth 64

/-- `sext_64(imm)`: the immediate of a 64-bit operation (rules R12, R75, R140). -/
def sextImm (imm : Word32) : Word := imm.signExtend 64

/-- The low `k` bits of `v`, sign extended to `n` bits (rules R12, R129, R168, R271). -/
def sextLow (k : Nat) {n : Nat} (v : BitVec n) : BitVec n := (v.setWidth k).signExtend n

/-- `ea = x[base] + sext_64(offset)` modulo 2^64 (rule R40). -/
def effectiveAddress (base : Word) (offset : BitVec 16) : Word := base + offset.signExtend 64

/-- The target of a jump: `pc + 1` plus the signed displacement in slots (rule R201). -/
def jumpTarget (pc : Int) {n : Nat} (disp : BitVec n) : Int := pc + 1 + disp.toInt

/-- ADD: the sum modulo 2^n (rules R102, R141). -/
def Alu.add {n : Nat} (a b : BitVec n) : BitVec n := a + b

/-- SUB: the difference modulo 2^n (rules R104, R143). -/
def Alu.sub {n : Nat} (a b : BitVec n) : BitVec n := a - b

/-- MUL: the low n bits of the product (rules R106, R145). -/
def Alu.mul {n : Nat} (a b : BitVec n) : BitVec n := a * b

/-- DIV: unsigned division, 0 for a zero divisor (rules R108, R147). -/
def Alu.div {n : Nat} (a b : BitVec n) : BitVec n := if b = 0#n then 0#n else BitVec.ofNat n (a.toNat / b.toNat)

/-- SDIV: division rounded toward zero, wrapped to n bits, 0 for a zero divisor (rules R110, R149). -/
def Alu.sdiv {n : Nat} (a b : BitVec n) : BitVec n := if b = 0#n then 0#n else BitVec.ofInt n (a.toInt.tdiv b.toInt)

/-- MOD: unsigned remainder, `a` for a zero divisor (rules R121, R160). -/
def Alu.mod {n : Nat} (a b : BitVec n) : BitVec n := if b = 0#n then a else BitVec.ofNat n (a.toNat % b.toNat)

/-- SMOD: the remainder of the division rounded toward zero, `a` for a zero divisor (rules R123, R162). -/
def Alu.smod {n : Nat} (a b : BitVec n) : BitVec n := if b = 0#n then a else BitVec.ofInt n (a.toInt.tmod b.toInt)

/-- OR (rules R112, R151). -/
def Alu.or {n : Nat} (a b : BitVec n) : BitVec n := a ||| b

/-- AND (rules R114, R153). -/
def Alu.and {n : Nat} (a b : BitVec n) : BitVec n := a &&& b

/-- XOR (rules R125, R164). -/
def Alu.xor {n : Nat} (a b : BitVec n) : BitVec n := a ^^^ b

/-- NEG: the two's complement negation (rules R120, R159). -/
def Alu.neg {n : Nat} (a : BitVec n) : BitVec n := -a

/-- The shift amount of a 32-bit shift: `b[4:0]` (rule R116). -/
def shiftAmount32 (b : Word32) : Nat := (b.extractLsb' 0 5).toNat

/-- The shift amount of a 64-bit shift: `b[5:0]` (rule R155). -/
def shiftAmount64 (b : Word) : Nat := (b.extractLsb' 0 6).toNat

/-- LSH of the ALU class (rule R116). -/
def Alu.lsh32 (a b : Word32) : Word32 := a <<< shiftAmount32 b

/-- RSH of the ALU class: zeros enter (rule R118). -/
def Alu.rsh32 (a b : Word32) : Word32 := a >>> shiftAmount32 b

/-- ARSH of the ALU class: bit 31 enters (rule R131). -/
def Alu.arsh32 (a b : Word32) : Word32 := a.sshiftRight (shiftAmount32 b)

/-- LSH of the ALU64 class (rule R155). -/
def Alu.lsh64 (a b : Word) : Word := a <<< shiftAmount64 b

/-- RSH of the ALU64 class: zeros enter (rule R157). -/
def Alu.rsh64 (a b : Word) : Word := a >>> shiftAmount64 b

/-- ARSH of the ALU64 class: bit 63 enters (rule R171). -/
def Alu.arsh64 (a b : Word) : Word := a.sshiftRight (shiftAmount64 b)

/-- `bswap16` (rule R13). -/
def bswap16 (v : BitVec 16) : BitVec 16 := v.extractLsb' 0 8 ++ v.extractLsb' 8 8

/-- `bswap32` (rule R13). -/
def bswap32 (v : BitVec 32) : BitVec 32 :=
  v.extractLsb' 0 8 ++ v.extractLsb' 8 8 ++ v.extractLsb' 16 8 ++ v.extractLsb' 24 8

/-- `bswap64` (rule R13). -/
def bswap64 (v : BitVec 64) : BitVec 64 :=
  v.extractLsb' 0 8 ++ v.extractLsb' 8 8 ++ v.extractLsb' 16 8 ++ v.extractLsb' 24 8 ++
    v.extractLsb' 32 8 ++ v.extractLsb' 40 8 ++ v.extractLsb' 48 8 ++ v.extractLsb' 56 8

/-- `leN` or `beN` (rule R13): a value goes between the host's byte order and `order`, and is swapped where they
differ. -/
def toOrder {n : Nat} (order host : Endian) (swap : BitVec n → BitVec n) (v : BitVec n) : BitVec n :=
  if host = order then v else swap v

/-- Byte `k` of a value, byte 0 the least significant. -/
def byteOf (v : Word) (k : Nat) : Byte := v.extractLsb' (8 * k) 8

/-- The value whose bytes are listed, least significant first. -/
def assemble : List Byte → Word
  | [] => 0#64
  | b :: rest => b.setWidth 64 ||| assemble rest <<< 8

/-- Which byte of an `n`-byte value stands `k` bytes above its address (rule R42). The same map says where the value's
byte `k` stands. -/
def bytePlace (e : Endian) (n k : Nat) : Nat :=
  match e with
  | .little => k
  | .big => n - 1 - k

end Sys2Proof.Machine
end

