-- ==== Sys2Proof/Syntax.lean ====
section
/-! DEFINITION. The instructions: one constructor per row of opcode_table.json (rules R16, R80), with the operands of
the row and no fixed field. `imm64SecondSlot` is the pseudo row of rule R338. -/

namespace Sys2Proof

/-- The instructions of the ISA. Each constructor names its row's rule. -/
inductive Instr where
  /-- ADD32_K, rule R102. -/
  | add32K (dst : Reg) (imm : Word32)
  /-- ADD32_X, rule R103. -/
  | add32X (dst src : Reg)
  /-- SUB32_K, rule R104. -/
  | sub32K (dst : Reg) (imm : Word32)
  /-- SUB32_X, rule R105. -/
  | sub32X (dst src : Reg)
  /-- MUL32_K, rule R106. -/
  | mul32K (dst : Reg) (imm : Word32)
  /-- MUL32_X, rule R107. -/
  | mul32X (dst src : Reg)
  /-- DIV32_K, rule R108. -/
  | div32K (dst : Reg) (imm : Word32)
  /-- DIV32_X, rule R109. -/
  | div32X (dst src : Reg)
  /-- SDIV32_K, rule R110. -/
  | sdiv32K (dst : Reg) (imm : Word32)
  /-- SDIV32_X, rule R111. -/
  | sdiv32X (dst src : Reg)
  /-- OR32_K, rule R112. -/
  | or32K (dst : Reg) (imm : Word32)
  /-- OR32_X, rule R113. -/
  | or32X (dst src : Reg)
  /-- AND32_K, rule R114. -/
  | and32K (dst : Reg) (imm : Word32)
  /-- AND32_X, rule R115. -/
  | and32X (dst src : Reg)
  /-- LSH32_K, rule R116. -/
  | lsh32K (dst : Reg) (imm : Word32)
  /-- LSH32_X, rule R117. -/
  | lsh32X (dst src : Reg)
  /-- RSH32_K, rule R118. -/
  | rsh32K (dst : Reg) (imm : Word32)
  /-- RSH32_X, rule R119. -/
  | rsh32X (dst src : Reg)
  /-- NEG32, rule R120. -/
  | neg32 (dst : Reg)
  /-- MOD32_K, rule R121. -/
  | mod32K (dst : Reg) (imm : Word32)
  /-- MOD32_X, rule R122. -/
  | mod32X (dst src : Reg)
  /-- SMOD32_K, rule R123. -/
  | smod32K (dst : Reg) (imm : Word32)
  /-- SMOD32_X, rule R124. -/
  | smod32X (dst src : Reg)
  /-- XOR32_K, rule R125. -/
  | xor32K (dst : Reg) (imm : Word32)
  /-- XOR32_X, rule R126. -/
  | xor32X (dst src : Reg)
  /-- MOV32_K, rule R127. -/
  | mov32K (dst : Reg) (imm : Word32)
  /-- MOV32_X, rule R128. -/
  | mov32X (dst src : Reg)
  /-- MOVSX32_8, rule R129. -/
  | movsx32_8 (dst src : Reg)
  /-- MOVSX32_16, rule R130. -/
  | movsx32_16 (dst src : Reg)
  /-- ARSH32_K, rule R131. -/
  | arsh32K (dst : Reg) (imm : Word32)
  /-- ARSH32_X, rule R132. -/
  | arsh32X (dst src : Reg)
  /-- ADD64_K, rule R141. -/
  | add64K (dst : Reg) (imm : Word32)
  /-- ADD64_X, rule R142. -/
  | add64X (dst src : Reg)
  /-- SUB64_K, rule R143. -/
  | sub64K (dst : Reg) (imm : Word32)
  /-- SUB64_X, rule R144. -/
  | sub64X (dst src : Reg)
  /-- MUL64_K, rule R145. -/
  | mul64K (dst : Reg) (imm : Word32)
  /-- MUL64_X, rule R146. -/
  | mul64X (dst src : Reg)
  /-- DIV64_K, rule R147. -/
  | div64K (dst : Reg) (imm : Word32)
  /-- DIV64_X, rule R148. -/
  | div64X (dst src : Reg)
  /-- SDIV64_K, rule R149. -/
  | sdiv64K (dst : Reg) (imm : Word32)
  /-- SDIV64_X, rule R150. -/
  | sdiv64X (dst src : Reg)
  /-- OR64_K, rule R151. -/
  | or64K (dst : Reg) (imm : Word32)
  /-- OR64_X, rule R152. -/
  | or64X (dst src : Reg)
  /-- AND64_K, rule R153. -/
  | and64K (dst : Reg) (imm : Word32)
  /-- AND64_X, rule R154. -/
  | and64X (dst src : Reg)
  /-- LSH64_K, rule R155. -/
  | lsh64K (dst : Reg) (imm : Word32)
  /-- LSH64_X, rule R156. -/
  | lsh64X (dst src : Reg)
  /-- RSH64_K, rule R157. -/
  | rsh64K (dst : Reg) (imm : Word32)
  /-- RSH64_X, rule R158. -/
  | rsh64X (dst src : Reg)
  /-- NEG64, rule R159. -/
  | neg64 (dst : Reg)
  /-- MOD64_K, rule R160. -/
  | mod64K (dst : Reg) (imm : Word32)
  /-- MOD64_X, rule R161. -/
  | mod64X (dst src : Reg)
  /-- SMOD64_K, rule R162. -/
  | smod64K (dst : Reg) (imm : Word32)
  /-- SMOD64_X, rule R163. -/
  | smod64X (dst src : Reg)
  /-- XOR64_K, rule R164. -/
  | xor64K (dst : Reg) (imm : Word32)
  /-- XOR64_X, rule R165. -/
  | xor64X (dst src : Reg)
  /-- MOV64_K, rule R166. -/
  | mov64K (dst : Reg) (imm : Word32)
  /-- MOV64_X, rule R167. -/
  | mov64X (dst src : Reg)
  /-- MOVSX64_8, rule R168. -/
  | movsx64_8 (dst src : Reg)
  /-- MOVSX64_16, rule R169. -/
  | movsx64_16 (dst src : Reg)
  /-- MOVSX64_32, rule R170. -/
  | movsx64_32 (dst src : Reg)
  /-- ARSH64_K, rule R171. -/
  | arsh64K (dst : Reg) (imm : Word32)
  /-- ARSH64_X, rule R172. -/
  | arsh64X (dst src : Reg)
  /-- LE16, rule R181. -/
  | le16 (dst : Reg)
  /-- LE32, rule R182. -/
  | le32 (dst : Reg)
  /-- LE64, rule R183. -/
  | le64 (dst : Reg)
  /-- BE16, rule R184. -/
  | be16 (dst : Reg)
  /-- BE32, rule R185. -/
  | be32 (dst : Reg)
  /-- BE64, rule R186. -/
  | be64 (dst : Reg)
  /-- BSWAP16, rule R187. -/
  | bswap16 (dst : Reg)
  /-- BSWAP32, rule R188. -/
  | bswap32 (dst : Reg)
  /-- BSWAP64, rule R189. -/
  | bswap64 (dst : Reg)
  /-- JA, rule R205. -/
  | ja (offset : BitVec 16)
  /-- JA32, rule R206. -/
  | ja32 (imm : Word32)
  /-- JEQ64_K, rule R207. -/
  | jeq64K (dst : Reg) (imm : Word32) (offset : BitVec 16)
  /-- JEQ64_X, rule R208. -/
  | jeq64X (dst src : Reg) (offset : BitVec 16)
  /-- JEQ32_K, rule R209. -/
  | jeq32K (dst : Reg) (imm : Word32) (offset : BitVec 16)
  /-- JEQ32_X, rule R210. -/
  | jeq32X (dst src : Reg) (offset : BitVec 16)
  /-- JGT64_K, rule R211. -/
  | jgt64K (dst : Reg) (imm : Word32) (offset : BitVec 16)
  /-- JGT64_X, rule R212. -/
  | jgt64X (dst src : Reg) (offset : BitVec 16)
  /-- JGT32_K, rule R213. -/
  | jgt32K (dst : Reg) (imm : Word32) (offset : BitVec 16)
  /-- JGT32_X, rule R214. -/
  | jgt32X (dst src : Reg) (offset : BitVec 16)
  /-- JGE64_K, rule R215. -/
  | jge64K (dst : Reg) (imm : Word32) (offset : BitVec 16)
  /-- JGE64_X, rule R216. -/
  | jge64X (dst src : Reg) (offset : BitVec 16)
  /-- JGE32_K, rule R217. -/
  | jge32K (dst : Reg) (imm : Word32) (offset : BitVec 16)
  /-- JGE32_X, rule R218. -/
  | jge32X (dst src : Reg) (offset : BitVec 16)
  /-- JSET64_K, rule R219. -/
  | jset64K (dst : Reg) (imm : Word32) (offset : BitVec 16)
  /-- JSET64_X, rule R220. -/
  | jset64X (dst src : Reg) (offset : BitVec 16)
  /-- JSET32_K, rule R221. -/
  | jset32K (dst : Reg) (imm : Word32) (offset : BitVec 16)
  /-- JSET32_X, rule R222. -/
  | jset32X (dst src : Reg) (offset : BitVec 16)
  /-- JNE64_K, rule R223. -/
  | jne64K (dst : Reg) (imm : Word32) (offset : BitVec 16)
  /-- JNE64_X, rule R224. -/
  | jne64X (dst src : Reg) (offset : BitVec 16)
  /-- JNE32_K, rule R225. -/
  | jne32K (dst : Reg) (imm : Word32) (offset : BitVec 16)
  /-- JNE32_X, rule R226. -/
  | jne32X (dst src : Reg) (offset : BitVec 16)
  /-- JSGT64_K, rule R227. -/
  | jsgt64K (dst : Reg) (imm : Word32) (offset : BitVec 16)
  /-- JSGT64_X, rule R228. -/
  | jsgt64X (dst src : Reg) (offset : BitVec 16)
  /-- JSGT32_K, rule R229. -/
  | jsgt32K (dst : Reg) (imm : Word32) (offset : BitVec 16)
  /-- JSGT32_X, rule R230. -/
  | jsgt32X (dst src : Reg) (offset : BitVec 16)
  /-- JSGE64_K, rule R231. -/
  | jsge64K (dst : Reg) (imm : Word32) (offset : BitVec 16)
  /-- JSGE64_X, rule R232. -/
  | jsge64X (dst src : Reg) (offset : BitVec 16)
  /-- JSGE32_K, rule R233. -/
  | jsge32K (dst : Reg) (imm : Word32) (offset : BitVec 16)
  /-- JSGE32_X, rule R234. -/
  | jsge32X (dst src : Reg) (offset : BitVec 16)
  /-- JLT64_K, rule R235. -/
  | jlt64K (dst : Reg) (imm : Word32) (offset : BitVec 16)
  /-- JLT64_X, rule R236. -/
  | jlt64X (dst src : Reg) (offset : BitVec 16)
  /-- JLT32_K, rule R237. -/
  | jlt32K (dst : Reg) (imm : Word32) (offset : BitVec 16)
  /-- JLT32_X, rule R238. -/
  | jlt32X (dst src : Reg) (offset : BitVec 16)
  /-- JLE64_K, rule R239. -/
  | jle64K (dst : Reg) (imm : Word32) (offset : BitVec 16)
  /-- JLE64_X, rule R240. -/
  | jle64X (dst src : Reg) (offset : BitVec 16)
  /-- JLE32_K, rule R241. -/
  | jle32K (dst : Reg) (imm : Word32) (offset : BitVec 16)
  /-- JLE32_X, rule R242. -/
  | jle32X (dst src : Reg) (offset : BitVec 16)
  /-- JSLT64_K, rule R243. -/
  | jslt64K (dst : Reg) (imm : Word32) (offset : BitVec 16)
  /-- JSLT64_X, rule R244. -/
  | jslt64X (dst src : Reg) (offset : BitVec 16)
  /-- JSLT32_K, rule R245. -/
  | jslt32K (dst : Reg) (imm : Word32) (offset : BitVec 16)
  /-- JSLT32_X, rule R246. -/
  | jslt32X (dst src : Reg) (offset : BitVec 16)
  /-- JSLE64_K, rule R247. -/
  | jsle64K (dst : Reg) (imm : Word32) (offset : BitVec 16)
  /-- JSLE64_X, rule R248. -/
  | jsle64X (dst src : Reg) (offset : BitVec 16)
  /-- JSLE32_K, rule R249. -/
  | jsle32K (dst : Reg) (imm : Word32) (offset : BitVec 16)
  /-- JSLE32_X, rule R250. -/
  | jsle32X (dst src : Reg) (offset : BitVec 16)
  /-- CALL_HELPER, rule R251. -/
  | callHelper (imm : Word32)
  /-- CALL_LOCAL, rule R252. -/
  | callLocal (imm : Word32)
  /-- CALL_BTF, rule R253. -/
  | callBtf (imm : Word32)
  /-- EXIT, rule R254. -/
  | exit
  /-- LDXW, rule R273. -/
  | ldxw (dst src : Reg) (offset : BitVec 16)
  /-- LDXH, rule R274. -/
  | ldxh (dst src : Reg) (offset : BitVec 16)
  /-- LDXB, rule R275. -/
  | ldxb (dst src : Reg) (offset : BitVec 16)
  /-- LDXDW, rule R276. -/
  | ldxdw (dst src : Reg) (offset : BitVec 16)
  /-- STW, rule R277. -/
  | stw (dst : Reg) (offset : BitVec 16) (imm : Word32)
  /-- STH, rule R278. -/
  | sth (dst : Reg) (offset : BitVec 16) (imm : Word32)
  /-- STB, rule R279. -/
  | stb (dst : Reg) (offset : BitVec 16) (imm : Word32)
  /-- STDW, rule R280. -/
  | stdw (dst : Reg) (offset : BitVec 16) (imm : Word32)
  /-- STXW, rule R281. -/
  | stxw (dst src : Reg) (offset : BitVec 16)
  /-- STXH, rule R282. -/
  | stxh (dst src : Reg) (offset : BitVec 16)
  /-- STXB, rule R283. -/
  | stxb (dst src : Reg) (offset : BitVec 16)
  /-- STXDW, rule R284. -/
  | stxdw (dst src : Reg) (offset : BitVec 16)
  /-- LDXSW, rule R285. -/
  | ldxsw (dst src : Reg) (offset : BitVec 16)
  /-- LDXSH, rule R286. -/
  | ldxsh (dst src : Reg) (offset : BitVec 16)
  /-- LDXSB, rule R287. -/
  | ldxsb (dst src : Reg) (offset : BitVec 16)
  /-- ATOMIC_ADD32, rule R303. -/
  | atomicAdd32 (dst src : Reg) (offset : BitVec 16)
  /-- ATOMIC_OR32, rule R304. -/
  | atomicOr32 (dst src : Reg) (offset : BitVec 16)
  /-- ATOMIC_AND32, rule R305. -/
  | atomicAnd32 (dst src : Reg) (offset : BitVec 16)
  /-- ATOMIC_XOR32, rule R306. -/
  | atomicXor32 (dst src : Reg) (offset : BitVec 16)
  /-- ATOMIC_FETCH_ADD32, rule R307. -/
  | atomicFetchAdd32 (dst src : Reg) (offset : BitVec 16)
  /-- ATOMIC_FETCH_OR32, rule R308. -/
  | atomicFetchOr32 (dst src : Reg) (offset : BitVec 16)
  /-- ATOMIC_FETCH_AND32, rule R309. -/
  | atomicFetchAnd32 (dst src : Reg) (offset : BitVec 16)
  /-- ATOMIC_FETCH_XOR32, rule R310. -/
  | atomicFetchXor32 (dst src : Reg) (offset : BitVec 16)
  /-- ATOMIC_XCHG32, rule R311. -/
  | atomicXchg32 (dst src : Reg) (offset : BitVec 16)
  /-- ATOMIC_CMPXCHG32, rule R312. -/
  | atomicCmpxchg32 (dst src : Reg) (offset : BitVec 16)
  /-- ATOMIC_ADD64, rule R313. -/
  | atomicAdd64 (dst src : Reg) (offset : BitVec 16)
  /-- ATOMIC_OR64, rule R314. -/
  | atomicOr64 (dst src : Reg) (offset : BitVec 16)
  /-- ATOMIC_AND64, rule R315. -/
  | atomicAnd64 (dst src : Reg) (offset : BitVec 16)
  /-- ATOMIC_XOR64, rule R316. -/
  | atomicXor64 (dst src : Reg) (offset : BitVec 16)
  /-- ATOMIC_FETCH_ADD64, rule R317. -/
  | atomicFetchAdd64 (dst src : Reg) (offset : BitVec 16)
  /-- ATOMIC_FETCH_OR64, rule R318. -/
  | atomicFetchOr64 (dst src : Reg) (offset : BitVec 16)
  /-- ATOMIC_FETCH_AND64, rule R319. -/
  | atomicFetchAnd64 (dst src : Reg) (offset : BitVec 16)
  /-- ATOMIC_FETCH_XOR64, rule R320. -/
  | atomicFetchXor64 (dst src : Reg) (offset : BitVec 16)
  /-- ATOMIC_XCHG64, rule R321. -/
  | atomicXchg64 (dst src : Reg) (offset : BitVec 16)
  /-- ATOMIC_CMPXCHG64, rule R322. -/
  | atomicCmpxchg64 (dst src : Reg) (offset : BitVec 16)
  /-- LDDW, rule R331. -/
  | lddw (dst : Reg) (imm nextImm : Word32)
  /-- LD_MAP_FD, rule R332. -/
  | ldMapFd (dst : Reg) (imm : Word32)
  /-- LD_MAP_VAL_FD, rule R333. -/
  | ldMapValFd (dst : Reg) (imm nextImm : Word32)
  /-- LD_VAR_ADDR, rule R334. -/
  | ldVarAddr (dst : Reg) (imm : Word32)
  /-- LD_CODE_ADDR, rule R335. -/
  | ldCodeAddr (dst : Reg) (imm : Word32)
  /-- LD_MAP_IDX, rule R336. -/
  | ldMapIdx (dst : Reg) (imm : Word32)
  /-- LD_MAP_VAL_IDX, rule R337. -/
  | ldMapValIdx (dst : Reg) (imm nextImm : Word32)
  /-- IMM64_SECOND_SLOT, rule R338. -/
  | imm64SecondSlot (nextImm : Word32)
  /-- LDABSW, rule R351. -/
  | ldabsw (imm : Word32)
  /-- LDABSH, rule R352. -/
  | ldabsh (imm : Word32)
  /-- LDABSB, rule R353. -/
  | ldabsb (imm : Word32)
  /-- LDINDW, rule R354. -/
  | ldindw (src : Reg) (imm : Word32)
  /-- LDINDH, rule R355. -/
  | ldindh (src : Reg) (imm : Word32)
  /-- LDINDB, rule R356. -/
  | ldindb (src : Reg) (imm : Word32)
deriving DecidableEq, Repr

end Sys2Proof
end

