-- ==== Sys2Proof/WellFormed.lean ====
section
/-! DEFINITION. Which terms of `Instr` are instructions on their own. Register numbers are at most 10 and every field has
its width by their types, so one check is left: the second slot of a wide instruction is no instruction (rule R338). -/

namespace Sys2Proof

/-- Whether the term stands at an instruction boundary: every row but IMM64_SECOND_SLOT, which is only ever consumed with
the 0x18 slot before it (rules R73, R338). -/
def Instr.wellFormed : Instr → Bool
  | .add32K .. | .add32X .. | .sub32K .. | .sub32X .. | .mul32K .. | .mul32X .. | .div32K .. | .div32X ..
  | .sdiv32K .. | .sdiv32X .. | .or32K .. | .or32X .. | .and32K .. | .and32X .. | .lsh32K .. | .lsh32X ..
  | .rsh32K .. | .rsh32X .. | .neg32 .. | .mod32K .. | .mod32X .. | .smod32K .. | .smod32X .. | .xor32K ..
  | .xor32X .. | .mov32K .. | .mov32X .. | .movsx32_8 .. | .movsx32_16 .. | .arsh32K .. | .arsh32X ..
  | .add64K .. | .add64X .. | .sub64K .. | .sub64X .. | .mul64K .. | .mul64X .. | .div64K .. | .div64X ..
  | .sdiv64K .. | .sdiv64X .. | .or64K .. | .or64X .. | .and64K .. | .and64X .. | .lsh64K .. | .lsh64X ..
  | .rsh64K .. | .rsh64X .. | .neg64 .. | .mod64K .. | .mod64X .. | .smod64K .. | .smod64X .. | .xor64K ..
  | .xor64X .. | .mov64K .. | .mov64X .. | .movsx64_8 .. | .movsx64_16 .. | .movsx64_32 .. | .arsh64K ..
  | .arsh64X .. | .le16 .. | .le32 .. | .le64 .. | .be16 .. | .be32 .. | .be64 .. | .bswap16 .. | .bswap32 ..
  | .bswap64 .. | .ja .. | .ja32 .. | .jeq64K .. | .jeq64X .. | .jeq32K .. | .jeq32X .. | .jgt64K .. | .jgt64X ..
  | .jgt32K .. | .jgt32X .. | .jge64K .. | .jge64X .. | .jge32K .. | .jge32X .. | .jset64K .. | .jset64X ..
  | .jset32K .. | .jset32X .. | .jne64K .. | .jne64X .. | .jne32K .. | .jne32X .. | .jsgt64K .. | .jsgt64X ..
  | .jsgt32K .. | .jsgt32X .. | .jsge64K .. | .jsge64X .. | .jsge32K .. | .jsge32X .. | .jlt64K .. | .jlt64X ..
  | .jlt32K .. | .jlt32X .. | .jle64K .. | .jle64X .. | .jle32K .. | .jle32X .. | .jslt64K .. | .jslt64X ..
  | .jslt32K .. | .jslt32X .. | .jsle64K .. | .jsle64X .. | .jsle32K .. | .jsle32X .. | .callHelper ..
  | .callLocal .. | .callBtf .. | .exit | .ldxw .. | .ldxh .. | .ldxb .. | .ldxdw .. | .stw .. | .sth ..
  | .stb .. | .stdw .. | .stxw .. | .stxh .. | .stxb .. | .stxdw .. | .ldxsw .. | .ldxsh .. | .ldxsb ..
  | .atomicAdd32 .. | .atomicOr32 .. | .atomicAnd32 .. | .atomicXor32 .. | .atomicFetchAdd32 ..
  | .atomicFetchOr32 .. | .atomicFetchAnd32 .. | .atomicFetchXor32 .. | .atomicXchg32 .. | .atomicCmpxchg32 ..
  | .atomicAdd64 .. | .atomicOr64 .. | .atomicAnd64 .. | .atomicXor64 .. | .atomicFetchAdd64 ..
  | .atomicFetchOr64 .. | .atomicFetchAnd64 .. | .atomicFetchXor64 .. | .atomicXchg64 .. | .atomicCmpxchg64 ..
  | .lddw .. | .ldMapFd .. | .ldMapValFd .. | .ldVarAddr .. | .ldCodeAddr .. | .ldMapIdx .. | .ldMapValIdx ..
  | .ldabsw .. | .ldabsh .. | .ldabsb .. | .ldindw .. | .ldindh .. | .ldindb .. => true
  | .imm64SecondSlot .. => false

end Sys2Proof
end

