-- ==== Sys2Proof/Decode.lean ====
section
/-! DEFINITION. The encodings: fields of a slot, the decoder (steps 2 to 5 of rule R73), the conformance group of each
instruction, and the encoder. -/

namespace Sys2Proof

/-- Why decode rejects an encoding: the reasons of `IllegalInstruction` (rule R402). -/
inductive IllegalReason where
  | truncated
  | badSecondSlot
  | reserved
  | nonZeroUnused
  | badRegister
deriving DecidableEq, Repr

/-- The fields of one slot (rules R61, R62). -/
structure Fields where
  opcode : BitVec 8
  dst    : BitVec 4
  src    : BitVec 4
  offset : BitVec 16
  imm    : Word32
deriving DecidableEq, Repr

/-- The fields of a slot's eight bytes in the host's byte order (rule R62). -/
def Slot.fields (e : Endian) (s : Slot) : Fields :=
  match e with
  | .little =>
    { opcode := s.b0, dst := s.b1.extractLsb' 0 4, src := s.b1.extractLsb' 4 4,
      offset := s.b3 ++ s.b2, imm := s.b7 ++ s.b6 ++ s.b5 ++ s.b4 }
  | .big =>
    { opcode := s.b0, dst := s.b1.extractLsb' 4 4, src := s.b1.extractLsb' 0 4,
      offset := s.b2 ++ s.b3, imm := s.b4 ++ s.b5 ++ s.b6 ++ s.b7 }

/-- The eight bytes that hold these fields in the host's byte order (rule R62). -/
def Fields.toSlot (e : Endian) (f : Fields) : Slot :=
  match e with
  | .little =>
    { b0 := f.opcode, b1 := f.src ++ f.dst, b2 := f.offset.extractLsb' 0 8, b3 := f.offset.extractLsb' 8 8,
      b4 := f.imm.extractLsb' 0 8, b5 := f.imm.extractLsb' 8 8, b6 := f.imm.extractLsb' 16 8,
      b7 := f.imm.extractLsb' 24 8 }
  | .big =>
    { b0 := f.opcode, b1 := f.dst ++ f.src, b2 := f.offset.extractLsb' 8 8, b3 := f.offset.extractLsb' 0 8,
      b4 := f.imm.extractLsb' 24 8, b5 := f.imm.extractLsb' 16 8, b6 := f.imm.extractLsb' 8 8,
      b7 := f.imm.extractLsb' 0 8 }

/-- The normalised word `W` of a slot (rule R62). -/
def Fields.word (f : Fields) : BitVec 64 := f.imm ++ f.offset ++ f.src ++ f.dst ++ f.opcode

/-- The fields a normalised word holds (rule R62). -/
def Fields.ofWord (w : BitVec 64) : Fields :=
  { opcode := w.extractLsb' 0 8, dst := w.extractLsb' 8 4, src := w.extractLsb' 12 4,
    offset := w.extractLsb' 16 16, imm := w.extractLsb' 32 32 }

/-- The register a 4-bit field names, if it names one (rule R78). -/
def regOf (n : BitVec 4) : Option Reg := if h : n.toNat < 11 then some ⟨n.toNat, h⟩ else none

/-- The 4-bit field that names a register (rule R78). -/
def regBits (r : Reg) : BitVec 4 := BitVec.ofNat 4 r.val

/-- What decoding a slot answers: an instruction, or the reason it is illegal. -/
abbrev Decoded := Except IllegalReason Instr

/-- Step 4 of rule R73: a field the row fixes must hold its value, else Reserved (rules R73, R402, R409). DESIGN CHOICE of
the recorded reason: 93_implementation_defined.md U4 says NonZeroUnused for an unused field, and R402 lets a model merge
reasons (log entry 21). -/
def fixed (ok : Bool) (k : Decoded) : Decoded := if ok then k else .error .reserved

/-- Step 5 of rule R73 for a row with one register field. -/
def oneReg (n : BitVec 4) (mk : Reg → Instr) : Decoded :=
  match regOf n with
  | some r => .ok (mk r)
  | none => .error .badRegister

/-- Step 5 of rule R73 for a row with two register fields. -/
def twoRegs (d s : BitVec 4) (mk : Reg → Reg → Instr) : Decoded :=
  match regOf d, regOf s with
  | some d, some s => .ok (mk d s)
  | _, _ => .error .badRegister

/-- An arithmetic K form: `src_reg` 0, `offset` the row's value, `imm` the operand (rules R67, R68). -/
def Fields.arithK (f : Fields) (off : BitVec 16) (mk : Reg → Word32 → Instr) : Decoded :=
  fixed (f.src = 0 ∧ f.offset = off) (oneReg f.dst fun d => mk d f.imm)

/-- An arithmetic X form: `offset` the row's value, `imm` 0 (rules R67, R68). -/
def Fields.arithX (f : Fields) (off : BitVec 16) (mk : Reg → Reg → Instr) : Decoded :=
  fixed (f.offset = off ∧ f.imm = 0) (twoRegs f.dst f.src mk)

/-- A form with `dst_reg` alone: `src_reg` and `offset` 0, `imm` the row's value (NEG and END: rules R68, R70). -/
def Fields.unary (f : Fields) (imm : Word32) (mk : Reg → Instr) : Decoded :=
  fixed (f.src = 0 ∧ f.offset = 0 ∧ f.imm = imm) (oneReg f.dst mk)

/-- A byte swap opcode: the width is in `imm` (rule R70). -/
def Fields.swap (f : Fields) (mk16 mk32 mk64 : Reg → Instr) : Decoded :=
  if f.imm = 16 then f.unary 16 mk16
  else if f.imm = 32 then f.unary 32 mk32
  else f.unary 64 mk64

/-- A conditional jump, K form: `src_reg` 0 (rule R203). -/
def Fields.jumpK (f : Fields) (mk : Reg → Word32 → BitVec 16 → Instr) : Decoded :=
  fixed (f.src = 0) (oneReg f.dst fun d => mk d f.imm f.offset)

/-- A conditional jump, X form: `imm` 0 (rule R203). -/
def Fields.jumpX (f : Fields) (mk : Reg → Reg → BitVec 16 → Instr) : Decoded :=
  fixed (f.imm = 0) (twoRegs f.dst f.src fun d s => mk d s f.offset)

/-- A form whose only operand is `imm`: `dst_reg` and `offset` 0, `src_reg` the row's value (rules R203, R350). -/
def Fields.immOnly (f : Fields) (src : BitVec 4) (mk : Word32 → Instr) : Decoded :=
  fixed (f.dst = 0 ∧ f.src = src ∧ f.offset = 0) (.ok (mk f.imm))

/-- A load, register store or atomic: two registers and `offset`, with `imm` the row's value (rules R71, R72). -/
def Fields.memX (f : Fields) (imm : Word32) (mk : Reg → Reg → BitVec 16 → Instr) : Decoded :=
  fixed (f.imm = imm) (twoRegs f.dst f.src fun d s => mk d s f.offset)

/-- An immediate store: `src_reg` 0 (rule R272). -/
def Fields.memK (f : Fields) (mk : Reg → BitVec 16 → Word32 → Instr) : Decoded :=
  fixed (f.src = 0) (oneReg f.dst fun d => mk d f.offset f.imm)

/-- A packet load, IND form: `dst_reg` and `offset` 0, `src_reg` a register (rule R350). -/
def Fields.packetInd (f : Fields) (mk : Reg → Word32 → Instr) : Decoded :=
  fixed (f.dst = 0 ∧ f.offset = 0) (oneReg f.src fun s => mk s f.imm)

/-- A wide row that uses `next_imm` (rules R65, R330). -/
def Fields.wideBoth (f : Fields) (next : Word32) (mk : Reg → Word32 → Word32 → Instr) : Decoded :=
  fixed (f.offset = 0) (oneReg f.dst fun d => mk d f.imm next)

/-- A wide row that does not use `next_imm`, which must then be 0 (rule R73 step 4, rule R330). -/
def Fields.wideOne (f : Fields) (next : Word32) (mk : Reg → Word32 → Instr) : Decoded :=
  fixed (f.offset = 0) (if next = 0 then oneReg f.dst fun d => mk d f.imm else .error .nonZeroUnused)

/-- The rows of class ALU (rules R68, R70). -/
def decodeAlu (f : Fields) : Decoded :=
  match f.opcode with
  | 0x04#8 => f.arithK 0 .add32K
  | 0x0c#8 => f.arithX 0 .add32X
  | 0x14#8 => f.arithK 0 .sub32K
  | 0x1c#8 => f.arithX 0 .sub32X
  | 0x24#8 => f.arithK 0 .mul32K
  | 0x2c#8 => f.arithX 0 .mul32X
  | 0x34#8 =>
    if f.offset = 0 then f.arithK 0 .div32K
    else f.arithK 1 .sdiv32K
  | 0x3c#8 =>
    if f.offset = 0 then f.arithX 0 .div32X
    else f.arithX 1 .sdiv32X
  | 0x44#8 => f.arithK 0 .or32K
  | 0x4c#8 => f.arithX 0 .or32X
  | 0x54#8 => f.arithK 0 .and32K
  | 0x5c#8 => f.arithX 0 .and32X
  | 0x64#8 => f.arithK 0 .lsh32K
  | 0x6c#8 => f.arithX 0 .lsh32X
  | 0x74#8 => f.arithK 0 .rsh32K
  | 0x7c#8 => f.arithX 0 .rsh32X
  | 0x84#8 => f.unary 0 .neg32
  | 0x94#8 =>
    if f.offset = 0 then f.arithK 0 .mod32K
    else f.arithK 1 .smod32K
  | 0x9c#8 =>
    if f.offset = 0 then f.arithX 0 .mod32X
    else f.arithX 1 .smod32X
  | 0xa4#8 => f.arithK 0 .xor32K
  | 0xac#8 => f.arithX 0 .xor32X
  | 0xb4#8 => f.arithK 0 .mov32K
  | 0xbc#8 =>
    if f.offset = 0 then f.arithX 0 .mov32X
    else if f.offset = 8 then f.arithX 8 .movsx32_8
    else f.arithX 16 .movsx32_16
  | 0xc4#8 => f.arithK 0 .arsh32K
  | 0xcc#8 => f.arithX 0 .arsh32X
  | 0xd4#8 => f.swap .le16 .le32 .le64
  | 0xdc#8 => f.swap .be16 .be32 .be64
  | _ => .error .reserved

/-- The rows of class ALU64 (rules R68, R70). -/
def decodeAlu64 (f : Fields) : Decoded :=
  match f.opcode with
  | 0x07#8 => f.arithK 0 .add64K
  | 0x0f#8 => f.arithX 0 .add64X
  | 0x17#8 => f.arithK 0 .sub64K
  | 0x1f#8 => f.arithX 0 .sub64X
  | 0x27#8 => f.arithK 0 .mul64K
  | 0x2f#8 => f.arithX 0 .mul64X
  | 0x37#8 =>
    if f.offset = 0 then f.arithK 0 .div64K
    else f.arithK 1 .sdiv64K
  | 0x3f#8 =>
    if f.offset = 0 then f.arithX 0 .div64X
    else f.arithX 1 .sdiv64X
  | 0x47#8 => f.arithK 0 .or64K
  | 0x4f#8 => f.arithX 0 .or64X
  | 0x57#8 => f.arithK 0 .and64K
  | 0x5f#8 => f.arithX 0 .and64X
  | 0x67#8 => f.arithK 0 .lsh64K
  | 0x6f#8 => f.arithX 0 .lsh64X
  | 0x77#8 => f.arithK 0 .rsh64K
  | 0x7f#8 => f.arithX 0 .rsh64X
  | 0x87#8 => f.unary 0 .neg64
  | 0x97#8 =>
    if f.offset = 0 then f.arithK 0 .mod64K
    else f.arithK 1 .smod64K
  | 0x9f#8 =>
    if f.offset = 0 then f.arithX 0 .mod64X
    else f.arithX 1 .smod64X
  | 0xa7#8 => f.arithK 0 .xor64K
  | 0xaf#8 => f.arithX 0 .xor64X
  | 0xb7#8 => f.arithK 0 .mov64K
  | 0xbf#8 =>
    if f.offset = 0 then f.arithX 0 .mov64X
    else if f.offset = 8 then f.arithX 8 .movsx64_8
    else if f.offset = 16 then f.arithX 16 .movsx64_16
    else f.arithX 32 .movsx64_32
  | 0xc7#8 => f.arithK 0 .arsh64K
  | 0xcf#8 => f.arithX 0 .arsh64X
  | 0xd7#8 => f.swap .bswap16 .bswap32 .bswap64
  | _ => .error .reserved

/-- The rows of class JMP (rule R69). -/
def decodeJmp (f : Fields) : Decoded :=
  match f.opcode with
  | 0x05#8 => fixed (f.dst = 0 ∧ f.src = 0 ∧ f.imm = 0) (.ok (.ja f.offset))
  | 0x15#8 => f.jumpK .jeq64K
  | 0x1d#8 => f.jumpX .jeq64X
  | 0x25#8 => f.jumpK .jgt64K
  | 0x2d#8 => f.jumpX .jgt64X
  | 0x35#8 => f.jumpK .jge64K
  | 0x3d#8 => f.jumpX .jge64X
  | 0x45#8 => f.jumpK .jset64K
  | 0x4d#8 => f.jumpX .jset64X
  | 0x55#8 => f.jumpK .jne64K
  | 0x5d#8 => f.jumpX .jne64X
  | 0x65#8 => f.jumpK .jsgt64K
  | 0x6d#8 => f.jumpX .jsgt64X
  | 0x75#8 => f.jumpK .jsge64K
  | 0x7d#8 => f.jumpX .jsge64X
  | 0x85#8 =>
    if f.src = 0 then f.immOnly 0 .callHelper
    else if f.src = 1 then f.immOnly 1 .callLocal
    else f.immOnly 2 .callBtf
  | 0x95#8 => fixed (f.dst = 0 ∧ f.src = 0 ∧ f.offset = 0 ∧ f.imm = 0) (.ok .exit)
  | 0xa5#8 => f.jumpK .jlt64K
  | 0xad#8 => f.jumpX .jlt64X
  | 0xb5#8 => f.jumpK .jle64K
  | 0xbd#8 => f.jumpX .jle64X
  | 0xc5#8 => f.jumpK .jslt64K
  | 0xcd#8 => f.jumpX .jslt64X
  | 0xd5#8 => f.jumpK .jsle64K
  | 0xdd#8 => f.jumpX .jsle64X
  | _ => .error .reserved

/-- The rows of class JMP32 (rule R69). -/
def decodeJmp32 (f : Fields) : Decoded :=
  match f.opcode with
  | 0x06#8 => f.immOnly 0 .ja32
  | 0x16#8 => f.jumpK .jeq32K
  | 0x1e#8 => f.jumpX .jeq32X
  | 0x26#8 => f.jumpK .jgt32K
  | 0x2e#8 => f.jumpX .jgt32X
  | 0x36#8 => f.jumpK .jge32K
  | 0x3e#8 => f.jumpX .jge32X
  | 0x46#8 => f.jumpK .jset32K
  | 0x4e#8 => f.jumpX .jset32X
  | 0x56#8 => f.jumpK .jne32K
  | 0x5e#8 => f.jumpX .jne32X
  | 0x66#8 => f.jumpK .jsgt32K
  | 0x6e#8 => f.jumpX .jsgt32X
  | 0x76#8 => f.jumpK .jsge32K
  | 0x7e#8 => f.jumpX .jsge32X
  | 0xa6#8 => f.jumpK .jlt32K
  | 0xae#8 => f.jumpX .jlt32X
  | 0xb6#8 => f.jumpK .jle32K
  | 0xbe#8 => f.jumpX .jle32X
  | 0xc6#8 => f.jumpK .jslt32K
  | 0xce#8 => f.jumpX .jslt32X
  | 0xd6#8 => f.jumpK .jsle32K
  | 0xde#8 => f.jumpX .jsle32X
  | _ => .error .reserved

/-- The rows of class LDX (rule R71). -/
def decodeLdx (f : Fields) : Decoded :=
  match f.opcode with
  | 0x61#8 => f.memX 0 .ldxw
  | 0x69#8 => f.memX 0 .ldxh
  | 0x71#8 => f.memX 0 .ldxb
  | 0x79#8 => f.memX 0 .ldxdw
  | 0x81#8 => f.memX 0 .ldxsw
  | 0x89#8 => f.memX 0 .ldxsh
  | 0x91#8 => f.memX 0 .ldxsb
  | _ => .error .reserved

/-- The rows of class ST (rule R71). -/
def decodeSt (f : Fields) : Decoded :=
  match f.opcode with
  | 0x62#8 => f.memK .stw
  | 0x6a#8 => f.memK .sth
  | 0x72#8 => f.memK .stb
  | 0x7a#8 => f.memK .stdw
  | _ => .error .reserved

/-- The rows of class STX (rules R71, R72). -/
def decodeStx (f : Fields) : Decoded :=
  match f.opcode with
  | 0x63#8 => f.memX 0 .stxw
  | 0x6b#8 => f.memX 0 .stxh
  | 0x73#8 => f.memX 0 .stxb
  | 0x7b#8 => f.memX 0 .stxdw
  | 0xc3#8 =>
    if f.imm = 0x00 then f.memX 0x00 .atomicAdd32
    else if f.imm = 0x01 then f.memX 0x01 .atomicFetchAdd32
    else if f.imm = 0x40 then f.memX 0x40 .atomicOr32
    else if f.imm = 0x41 then f.memX 0x41 .atomicFetchOr32
    else if f.imm = 0x50 then f.memX 0x50 .atomicAnd32
    else if f.imm = 0x51 then f.memX 0x51 .atomicFetchAnd32
    else if f.imm = 0xa0 then f.memX 0xa0 .atomicXor32
    else if f.imm = 0xa1 then f.memX 0xa1 .atomicFetchXor32
    else if f.imm = 0xe1 then f.memX 0xe1 .atomicXchg32
    else f.memX 0xf1 .atomicCmpxchg32
  | 0xdb#8 =>
    if f.imm = 0x00 then f.memX 0x00 .atomicAdd64
    else if f.imm = 0x01 then f.memX 0x01 .atomicFetchAdd64
    else if f.imm = 0x40 then f.memX 0x40 .atomicOr64
    else if f.imm = 0x41 then f.memX 0x41 .atomicFetchOr64
    else if f.imm = 0x50 then f.memX 0x50 .atomicAnd64
    else if f.imm = 0x51 then f.memX 0x51 .atomicFetchAnd64
    else if f.imm = 0xa0 then f.memX 0xa0 .atomicXor64
    else if f.imm = 0xa1 then f.memX 0xa1 .atomicFetchXor64
    else if f.imm = 0xe1 then f.memX 0xe1 .atomicXchg64
    else f.memX 0xf1 .atomicCmpxchg64
  | _ => .error .reserved

/-- The rows of class LD but for opcode 0x18 (rule R71). -/
def decodeLd (f : Fields) : Decoded :=
  match f.opcode with
  | 0x20#8 => f.immOnly 0 .ldabsw
  | 0x28#8 => f.immOnly 0 .ldabsh
  | 0x30#8 => f.immOnly 0 .ldabsb
  | 0x40#8 => f.packetInd .ldindw
  | 0x48#8 => f.packetInd .ldindh
  | 0x50#8 => f.packetInd .ldindb
  | _ => .error .reserved

/-- The rows of opcode 0x18: the subtype is in `src_reg` (rules R72, R330). `next` is the second slot's `next_imm`. -/
def decodeWide (f : Fields) (next : Word32) : Decoded :=
  match f.src with
  | 0x0#4 => f.wideBoth next .lddw
  | 0x1#4 => f.wideOne next .ldMapFd
  | 0x2#4 => f.wideBoth next .ldMapValFd
  | 0x3#4 => f.wideOne next .ldVarAddr
  | 0x4#4 => f.wideOne next .ldCodeAddr
  | 0x5#4 => f.wideOne next .ldMapIdx
  | 0x6#4 => f.wideBoth next .ldMapValIdx
  | _ => .error .reserved

/-- The pseudo instruction a second slot holds, if its low 32 bits are zero (rules R65, R338). -/
def decodeSecondSlot (f : Fields) : Option Instr :=
  if f.opcode = 0 ∧ f.dst = 0 ∧ f.src = 0 ∧ f.offset = 0 then some (.imm64SecondSlot f.imm) else none

/-- Steps 3 to 5 of rule R73 on the fields of a slot and of the slot after it, if there is one. -/
def decodeFields (f : Fields) (next : Option Fields) : Decoded :=
  if f.opcode = 0x18 then
    match next with
    | none => .error .truncated
    | some g =>
      match decodeSecondSlot g with
      | some (.imm64SecondSlot nextImm) => decodeWide f nextImm
      | _ => .error .badSecondSlot
  else
    match f.opcode.extractLsb' 0 3 with
    | 0#3 => decodeLd f
    | 1#3 => decodeLdx f
    | 2#3 => decodeSt f
    | 3#3 => decodeStx f
    | 4#3 => decodeAlu f
    | 5#3 => decodeJmp f
    | 6#3 => decodeJmp32 f
    | _ => decodeAlu64 f

/-- Steps 2 to 5 of rule R73: the instruction at a slot, with the slot after it. -/
def decodeSlots (e : Endian) (s : Slot) (next : Option Slot) : Decoded :=
  decodeFields (s.fields e) (next.map (Slot.fields e))

/-- The conformance group of an instruction: the `group` of its row (rules R4, R101, R173, R180, R202, R272, R302). -/
def Instr.group : Instr → Group
  | .add32K .. | .add32X .. | .sub32K .. | .sub32X .. | .or32K .. | .or32X .. | .and32K .. | .and32X ..
  | .lsh32K .. | .lsh32X .. | .rsh32K .. | .rsh32X .. | .neg32 .. | .xor32K .. | .xor32X .. | .mov32K ..
  | .mov32X .. | .movsx32_8 .. | .movsx32_16 .. | .arsh32K .. | .arsh32X .. | .le16 .. | .le32 .. | .be16 ..
  | .be32 .. | .bswap16 .. | .bswap32 .. | .ja .. | .ja32 .. | .jeq32K .. | .jeq32X .. | .jgt32K .. | .jgt32X ..
  | .jge32K .. | .jge32X .. | .jset32K .. | .jset32X .. | .jne32K .. | .jne32X .. | .jsgt32K .. | .jsgt32X ..
  | .jsge32K .. | .jsge32X .. | .jlt32K .. | .jlt32X .. | .jle32K .. | .jle32X .. | .jslt32K .. | .jslt32X ..
  | .jsle32K .. | .jsle32X .. | .callHelper .. | .callLocal .. | .callBtf .. | .exit | .ldxw .. | .ldxh ..
  | .ldxb .. | .stw .. | .sth .. | .stb .. | .stxw .. | .stxh .. | .stxb .. | .ldxsw .. | .ldxsh .. | .ldxsb .. => .base32
  | .add64K .. | .add64X .. | .sub64K .. | .sub64X .. | .or64K .. | .or64X .. | .and64K .. | .and64X ..
  | .lsh64K .. | .lsh64X .. | .rsh64K .. | .rsh64X .. | .neg64 .. | .xor64K .. | .xor64X .. | .mov64K ..
  | .mov64X .. | .movsx64_8 .. | .movsx64_16 .. | .movsx64_32 .. | .arsh64K .. | .arsh64X .. | .le64 ..
  | .be64 .. | .bswap64 .. | .jeq64K .. | .jeq64X .. | .jgt64K .. | .jgt64X .. | .jge64K .. | .jge64X ..
  | .jset64K .. | .jset64X .. | .jne64K .. | .jne64X .. | .jsgt64K .. | .jsgt64X .. | .jsge64K .. | .jsge64X ..
  | .jlt64K .. | .jlt64X .. | .jle64K .. | .jle64X .. | .jslt64K .. | .jslt64X .. | .jsle64K .. | .jsle64X ..
  | .ldxdw .. | .stdw .. | .stxdw .. | .lddw .. | .ldMapFd .. | .ldMapValFd .. | .ldVarAddr .. | .ldCodeAddr ..
  | .ldMapIdx .. | .ldMapValIdx .. | .imm64SecondSlot .. => .base64
  | .mul32K .. | .mul32X .. | .div32K .. | .div32X .. | .sdiv32K .. | .sdiv32X .. | .mod32K .. | .mod32X ..
  | .smod32K .. | .smod32X .. => .divmul32
  | .mul64K .. | .mul64X .. | .div64K .. | .div64X .. | .sdiv64K .. | .sdiv64X .. | .mod64K .. | .mod64X ..
  | .smod64K .. | .smod64X .. => .divmul64
  | .atomicAdd32 .. | .atomicOr32 .. | .atomicAnd32 .. | .atomicXor32 .. | .atomicFetchAdd32 ..
  | .atomicFetchOr32 .. | .atomicFetchAnd32 .. | .atomicFetchXor32 .. | .atomicXchg32 .. | .atomicCmpxchg32 .. => .atomic32
  | .atomicAdd64 .. | .atomicOr64 .. | .atomicAnd64 .. | .atomicXor64 .. | .atomicFetchAdd64 ..
  | .atomicFetchOr64 .. | .atomicFetchAnd64 .. | .atomicFetchXor64 .. | .atomicXchg64 .. | .atomicCmpxchg64 .. => .atomic64
  | .ldabsw .. | .ldabsh .. | .ldabsb .. | .ldindw .. | .ldindh .. | .ldindb .. => .packet

/-- The fields of an instruction's slots, one or two of them (rules R61, R65). Fields the row does not use are 0
(rule R64). -/
def encode : Instr → List Fields
  | .add32K dst imm => [⟨0x04, regBits dst, 0, 0, imm⟩]
  | .add32X dst src => [⟨0x0c, regBits dst, regBits src, 0, 0⟩]
  | .sub32K dst imm => [⟨0x14, regBits dst, 0, 0, imm⟩]
  | .sub32X dst src => [⟨0x1c, regBits dst, regBits src, 0, 0⟩]
  | .mul32K dst imm => [⟨0x24, regBits dst, 0, 0, imm⟩]
  | .mul32X dst src => [⟨0x2c, regBits dst, regBits src, 0, 0⟩]
  | .div32K dst imm => [⟨0x34, regBits dst, 0, 0, imm⟩]
  | .div32X dst src => [⟨0x3c, regBits dst, regBits src, 0, 0⟩]
  | .sdiv32K dst imm => [⟨0x34, regBits dst, 0, 1, imm⟩]
  | .sdiv32X dst src => [⟨0x3c, regBits dst, regBits src, 1, 0⟩]
  | .or32K dst imm => [⟨0x44, regBits dst, 0, 0, imm⟩]
  | .or32X dst src => [⟨0x4c, regBits dst, regBits src, 0, 0⟩]
  | .and32K dst imm => [⟨0x54, regBits dst, 0, 0, imm⟩]
  | .and32X dst src => [⟨0x5c, regBits dst, regBits src, 0, 0⟩]
  | .lsh32K dst imm => [⟨0x64, regBits dst, 0, 0, imm⟩]
  | .lsh32X dst src => [⟨0x6c, regBits dst, regBits src, 0, 0⟩]
  | .rsh32K dst imm => [⟨0x74, regBits dst, 0, 0, imm⟩]
  | .rsh32X dst src => [⟨0x7c, regBits dst, regBits src, 0, 0⟩]
  | .neg32 dst => [⟨0x84, regBits dst, 0, 0, 0⟩]
  | .mod32K dst imm => [⟨0x94, regBits dst, 0, 0, imm⟩]
  | .mod32X dst src => [⟨0x9c, regBits dst, regBits src, 0, 0⟩]
  | .smod32K dst imm => [⟨0x94, regBits dst, 0, 1, imm⟩]
  | .smod32X dst src => [⟨0x9c, regBits dst, regBits src, 1, 0⟩]
  | .xor32K dst imm => [⟨0xa4, regBits dst, 0, 0, imm⟩]
  | .xor32X dst src => [⟨0xac, regBits dst, regBits src, 0, 0⟩]
  | .mov32K dst imm => [⟨0xb4, regBits dst, 0, 0, imm⟩]
  | .mov32X dst src => [⟨0xbc, regBits dst, regBits src, 0, 0⟩]
  | .movsx32_8 dst src => [⟨0xbc, regBits dst, regBits src, 8, 0⟩]
  | .movsx32_16 dst src => [⟨0xbc, regBits dst, regBits src, 16, 0⟩]
  | .arsh32K dst imm => [⟨0xc4, regBits dst, 0, 0, imm⟩]
  | .arsh32X dst src => [⟨0xcc, regBits dst, regBits src, 0, 0⟩]
  | .add64K dst imm => [⟨0x07, regBits dst, 0, 0, imm⟩]
  | .add64X dst src => [⟨0x0f, regBits dst, regBits src, 0, 0⟩]
  | .sub64K dst imm => [⟨0x17, regBits dst, 0, 0, imm⟩]
  | .sub64X dst src => [⟨0x1f, regBits dst, regBits src, 0, 0⟩]
  | .mul64K dst imm => [⟨0x27, regBits dst, 0, 0, imm⟩]
  | .mul64X dst src => [⟨0x2f, regBits dst, regBits src, 0, 0⟩]
  | .div64K dst imm => [⟨0x37, regBits dst, 0, 0, imm⟩]
  | .div64X dst src => [⟨0x3f, regBits dst, regBits src, 0, 0⟩]
  | .sdiv64K dst imm => [⟨0x37, regBits dst, 0, 1, imm⟩]
  | .sdiv64X dst src => [⟨0x3f, regBits dst, regBits src, 1, 0⟩]
  | .or64K dst imm => [⟨0x47, regBits dst, 0, 0, imm⟩]
  | .or64X dst src => [⟨0x4f, regBits dst, regBits src, 0, 0⟩]
  | .and64K dst imm => [⟨0x57, regBits dst, 0, 0, imm⟩]
  | .and64X dst src => [⟨0x5f, regBits dst, regBits src, 0, 0⟩]
  | .lsh64K dst imm => [⟨0x67, regBits dst, 0, 0, imm⟩]
  | .lsh64X dst src => [⟨0x6f, regBits dst, regBits src, 0, 0⟩]
  | .rsh64K dst imm => [⟨0x77, regBits dst, 0, 0, imm⟩]
  | .rsh64X dst src => [⟨0x7f, regBits dst, regBits src, 0, 0⟩]
  | .neg64 dst => [⟨0x87, regBits dst, 0, 0, 0⟩]
  | .mod64K dst imm => [⟨0x97, regBits dst, 0, 0, imm⟩]
  | .mod64X dst src => [⟨0x9f, regBits dst, regBits src, 0, 0⟩]
  | .smod64K dst imm => [⟨0x97, regBits dst, 0, 1, imm⟩]
  | .smod64X dst src => [⟨0x9f, regBits dst, regBits src, 1, 0⟩]
  | .xor64K dst imm => [⟨0xa7, regBits dst, 0, 0, imm⟩]
  | .xor64X dst src => [⟨0xaf, regBits dst, regBits src, 0, 0⟩]
  | .mov64K dst imm => [⟨0xb7, regBits dst, 0, 0, imm⟩]
  | .mov64X dst src => [⟨0xbf, regBits dst, regBits src, 0, 0⟩]
  | .movsx64_8 dst src => [⟨0xbf, regBits dst, regBits src, 8, 0⟩]
  | .movsx64_16 dst src => [⟨0xbf, regBits dst, regBits src, 16, 0⟩]
  | .movsx64_32 dst src => [⟨0xbf, regBits dst, regBits src, 32, 0⟩]
  | .arsh64K dst imm => [⟨0xc7, regBits dst, 0, 0, imm⟩]
  | .arsh64X dst src => [⟨0xcf, regBits dst, regBits src, 0, 0⟩]
  | .le16 dst => [⟨0xd4, regBits dst, 0, 0, 16⟩]
  | .le32 dst => [⟨0xd4, regBits dst, 0, 0, 32⟩]
  | .le64 dst => [⟨0xd4, regBits dst, 0, 0, 64⟩]
  | .be16 dst => [⟨0xdc, regBits dst, 0, 0, 16⟩]
  | .be32 dst => [⟨0xdc, regBits dst, 0, 0, 32⟩]
  | .be64 dst => [⟨0xdc, regBits dst, 0, 0, 64⟩]
  | .bswap16 dst => [⟨0xd7, regBits dst, 0, 0, 16⟩]
  | .bswap32 dst => [⟨0xd7, regBits dst, 0, 0, 32⟩]
  | .bswap64 dst => [⟨0xd7, regBits dst, 0, 0, 64⟩]
  | .ja offset => [⟨0x05, 0, 0, offset, 0⟩]
  | .ja32 imm => [⟨0x06, 0, 0, 0, imm⟩]
  | .jeq64K dst imm offset => [⟨0x15, regBits dst, 0, offset, imm⟩]
  | .jeq64X dst src offset => [⟨0x1d, regBits dst, regBits src, offset, 0⟩]
  | .jeq32K dst imm offset => [⟨0x16, regBits dst, 0, offset, imm⟩]
  | .jeq32X dst src offset => [⟨0x1e, regBits dst, regBits src, offset, 0⟩]
  | .jgt64K dst imm offset => [⟨0x25, regBits dst, 0, offset, imm⟩]
  | .jgt64X dst src offset => [⟨0x2d, regBits dst, regBits src, offset, 0⟩]
  | .jgt32K dst imm offset => [⟨0x26, regBits dst, 0, offset, imm⟩]
  | .jgt32X dst src offset => [⟨0x2e, regBits dst, regBits src, offset, 0⟩]
  | .jge64K dst imm offset => [⟨0x35, regBits dst, 0, offset, imm⟩]
  | .jge64X dst src offset => [⟨0x3d, regBits dst, regBits src, offset, 0⟩]
  | .jge32K dst imm offset => [⟨0x36, regBits dst, 0, offset, imm⟩]
  | .jge32X dst src offset => [⟨0x3e, regBits dst, regBits src, offset, 0⟩]
  | .jset64K dst imm offset => [⟨0x45, regBits dst, 0, offset, imm⟩]
  | .jset64X dst src offset => [⟨0x4d, regBits dst, regBits src, offset, 0⟩]
  | .jset32K dst imm offset => [⟨0x46, regBits dst, 0, offset, imm⟩]
  | .jset32X dst src offset => [⟨0x4e, regBits dst, regBits src, offset, 0⟩]
  | .jne64K dst imm offset => [⟨0x55, regBits dst, 0, offset, imm⟩]
  | .jne64X dst src offset => [⟨0x5d, regBits dst, regBits src, offset, 0⟩]
  | .jne32K dst imm offset => [⟨0x56, regBits dst, 0, offset, imm⟩]
  | .jne32X dst src offset => [⟨0x5e, regBits dst, regBits src, offset, 0⟩]
  | .jsgt64K dst imm offset => [⟨0x65, regBits dst, 0, offset, imm⟩]
  | .jsgt64X dst src offset => [⟨0x6d, regBits dst, regBits src, offset, 0⟩]
  | .jsgt32K dst imm offset => [⟨0x66, regBits dst, 0, offset, imm⟩]
  | .jsgt32X dst src offset => [⟨0x6e, regBits dst, regBits src, offset, 0⟩]
  | .jsge64K dst imm offset => [⟨0x75, regBits dst, 0, offset, imm⟩]
  | .jsge64X dst src offset => [⟨0x7d, regBits dst, regBits src, offset, 0⟩]
  | .jsge32K dst imm offset => [⟨0x76, regBits dst, 0, offset, imm⟩]
  | .jsge32X dst src offset => [⟨0x7e, regBits dst, regBits src, offset, 0⟩]
  | .jlt64K dst imm offset => [⟨0xa5, regBits dst, 0, offset, imm⟩]
  | .jlt64X dst src offset => [⟨0xad, regBits dst, regBits src, offset, 0⟩]
  | .jlt32K dst imm offset => [⟨0xa6, regBits dst, 0, offset, imm⟩]
  | .jlt32X dst src offset => [⟨0xae, regBits dst, regBits src, offset, 0⟩]
  | .jle64K dst imm offset => [⟨0xb5, regBits dst, 0, offset, imm⟩]
  | .jle64X dst src offset => [⟨0xbd, regBits dst, regBits src, offset, 0⟩]
  | .jle32K dst imm offset => [⟨0xb6, regBits dst, 0, offset, imm⟩]
  | .jle32X dst src offset => [⟨0xbe, regBits dst, regBits src, offset, 0⟩]
  | .jslt64K dst imm offset => [⟨0xc5, regBits dst, 0, offset, imm⟩]
  | .jslt64X dst src offset => [⟨0xcd, regBits dst, regBits src, offset, 0⟩]
  | .jslt32K dst imm offset => [⟨0xc6, regBits dst, 0, offset, imm⟩]
  | .jslt32X dst src offset => [⟨0xce, regBits dst, regBits src, offset, 0⟩]
  | .jsle64K dst imm offset => [⟨0xd5, regBits dst, 0, offset, imm⟩]
  | .jsle64X dst src offset => [⟨0xdd, regBits dst, regBits src, offset, 0⟩]
  | .jsle32K dst imm offset => [⟨0xd6, regBits dst, 0, offset, imm⟩]
  | .jsle32X dst src offset => [⟨0xde, regBits dst, regBits src, offset, 0⟩]
  | .callHelper imm => [⟨0x85, 0, 0, 0, imm⟩]
  | .callLocal imm => [⟨0x85, 0, 1, 0, imm⟩]
  | .callBtf imm => [⟨0x85, 0, 2, 0, imm⟩]
  | .exit => [⟨0x95, 0, 0, 0, 0⟩]
  | .ldxw dst src offset => [⟨0x61, regBits dst, regBits src, offset, 0⟩]
  | .ldxh dst src offset => [⟨0x69, regBits dst, regBits src, offset, 0⟩]
  | .ldxb dst src offset => [⟨0x71, regBits dst, regBits src, offset, 0⟩]
  | .ldxdw dst src offset => [⟨0x79, regBits dst, regBits src, offset, 0⟩]
  | .stw dst offset imm => [⟨0x62, regBits dst, 0, offset, imm⟩]
  | .sth dst offset imm => [⟨0x6a, regBits dst, 0, offset, imm⟩]
  | .stb dst offset imm => [⟨0x72, regBits dst, 0, offset, imm⟩]
  | .stdw dst offset imm => [⟨0x7a, regBits dst, 0, offset, imm⟩]
  | .stxw dst src offset => [⟨0x63, regBits dst, regBits src, offset, 0⟩]
  | .stxh dst src offset => [⟨0x6b, regBits dst, regBits src, offset, 0⟩]
  | .stxb dst src offset => [⟨0x73, regBits dst, regBits src, offset, 0⟩]
  | .stxdw dst src offset => [⟨0x7b, regBits dst, regBits src, offset, 0⟩]
  | .ldxsw dst src offset => [⟨0x81, regBits dst, regBits src, offset, 0⟩]
  | .ldxsh dst src offset => [⟨0x89, regBits dst, regBits src, offset, 0⟩]
  | .ldxsb dst src offset => [⟨0x91, regBits dst, regBits src, offset, 0⟩]
  | .atomicAdd32 dst src offset => [⟨0xc3, regBits dst, regBits src, offset, 0x00⟩]
  | .atomicOr32 dst src offset => [⟨0xc3, regBits dst, regBits src, offset, 0x40⟩]
  | .atomicAnd32 dst src offset => [⟨0xc3, regBits dst, regBits src, offset, 0x50⟩]
  | .atomicXor32 dst src offset => [⟨0xc3, regBits dst, regBits src, offset, 0xa0⟩]
  | .atomicFetchAdd32 dst src offset => [⟨0xc3, regBits dst, regBits src, offset, 0x01⟩]
  | .atomicFetchOr32 dst src offset => [⟨0xc3, regBits dst, regBits src, offset, 0x41⟩]
  | .atomicFetchAnd32 dst src offset => [⟨0xc3, regBits dst, regBits src, offset, 0x51⟩]
  | .atomicFetchXor32 dst src offset => [⟨0xc3, regBits dst, regBits src, offset, 0xa1⟩]
  | .atomicXchg32 dst src offset => [⟨0xc3, regBits dst, regBits src, offset, 0xe1⟩]
  | .atomicCmpxchg32 dst src offset => [⟨0xc3, regBits dst, regBits src, offset, 0xf1⟩]
  | .atomicAdd64 dst src offset => [⟨0xdb, regBits dst, regBits src, offset, 0x00⟩]
  | .atomicOr64 dst src offset => [⟨0xdb, regBits dst, regBits src, offset, 0x40⟩]
  | .atomicAnd64 dst src offset => [⟨0xdb, regBits dst, regBits src, offset, 0x50⟩]
  | .atomicXor64 dst src offset => [⟨0xdb, regBits dst, regBits src, offset, 0xa0⟩]
  | .atomicFetchAdd64 dst src offset => [⟨0xdb, regBits dst, regBits src, offset, 0x01⟩]
  | .atomicFetchOr64 dst src offset => [⟨0xdb, regBits dst, regBits src, offset, 0x41⟩]
  | .atomicFetchAnd64 dst src offset => [⟨0xdb, regBits dst, regBits src, offset, 0x51⟩]
  | .atomicFetchXor64 dst src offset => [⟨0xdb, regBits dst, regBits src, offset, 0xa1⟩]
  | .atomicXchg64 dst src offset => [⟨0xdb, regBits dst, regBits src, offset, 0xe1⟩]
  | .atomicCmpxchg64 dst src offset => [⟨0xdb, regBits dst, regBits src, offset, 0xf1⟩]
  | .lddw dst imm nextImm => [⟨0x18, regBits dst, 0, 0, imm⟩, ⟨0, 0, 0, 0, nextImm⟩]
  | .ldMapFd dst imm => [⟨0x18, regBits dst, 1, 0, imm⟩, ⟨0, 0, 0, 0, 0⟩]
  | .ldMapValFd dst imm nextImm => [⟨0x18, regBits dst, 2, 0, imm⟩, ⟨0, 0, 0, 0, nextImm⟩]
  | .ldVarAddr dst imm => [⟨0x18, regBits dst, 3, 0, imm⟩, ⟨0, 0, 0, 0, 0⟩]
  | .ldCodeAddr dst imm => [⟨0x18, regBits dst, 4, 0, imm⟩, ⟨0, 0, 0, 0, 0⟩]
  | .ldMapIdx dst imm => [⟨0x18, regBits dst, 5, 0, imm⟩, ⟨0, 0, 0, 0, 0⟩]
  | .ldMapValIdx dst imm nextImm => [⟨0x18, regBits dst, 6, 0, imm⟩, ⟨0, 0, 0, 0, nextImm⟩]
  | .imm64SecondSlot nextImm => [⟨0, 0, 0, 0, nextImm⟩]
  | .ldabsw imm => [⟨0x20, 0, 0, 0, imm⟩]
  | .ldabsh imm => [⟨0x28, 0, 0, 0, imm⟩]
  | .ldabsb imm => [⟨0x30, 0, 0, 0, imm⟩]
  | .ldindw src imm => [⟨0x40, 0, regBits src, 0, imm⟩]
  | .ldindh src imm => [⟨0x48, 0, regBits src, 0, imm⟩]
  | .ldindb src imm => [⟨0x50, 0, regBits src, 0, imm⟩]

/-- The slots that hold an instruction, in the host's byte order (rules R62, R65). -/
def encodeSlots (e : Endian) (i : Instr) : List Slot := (encode i).map (Fields.toSlot e)

/-- The instruction a program's slots begin with. -/
def decodeProgram (e : Endian) : List Slot → Decoded
  | [] => .error .truncated
  | s :: rest => decodeSlots e s rest.head?

/-- The instruction the decoder reads from an instruction of `nbits` bits with normalised word `w`: the first slot is
the low 64 bits, the second the next 64, every bit from `nbits` up being 0. Laid out on a little-endian host. -/
def decodeTableWord (nbits w : Nat) : Option Instr :=
  let v := BitVec.ofNat 128 (w % 2 ^ nbits)
  let s1 := (Fields.ofWord (v.extractLsb' 0 64)).toSlot .little
  let s2 := (Fields.ofWord (v.extractLsb' 64 64)).toSlot .little
  match decodeProgram .little [s1, s2] with
  | .ok i => some i
  | .error _ => none

end Sys2Proof
end

