-- ==== Sys2Proof/Machine/State.lean ====
section
/-! DEFINITION. The state of the machine as plain data (Table S, rule R29), its faults, and the state after reset. -/

namespace Sys2Proof

namespace Machine

/-- Why a memory access is not admitted (rule R405), in the order the checks are made. -/
inductive MemReason where
  | wraps
  | misaligned
  | notAccessible
deriving DecidableEq, Repr

/-- What the platform does not supply (rule R406). -/
inductive PlatformReason where
  | unknownHelper
  | helperFailed
  | noMap
  | noMapValue
  | noVariable
  | noCodeAddress
deriving DecidableEq, Repr

/-- The seven terminal faults of the machine with the information each records (Table F, rule R401). They are part of
the state: a step that raises one answers a next state whose status names it (rule R400, log entry 6). -/
inductive Trap where
  | badPc (pc : Int)
  | illegalInstruction (pc : Int) (reason : IllegalReason)
  | unsupportedGroup (pc : Int) (group : Group)
  | unwrittenRegister (r : Reg)
  | memoryFault (ea : Word) (n : Nat) (kind : AccessKind) (reason : MemReason)
  | platformFault (what : PlatformReason) (id : Word32)
  | callDepth (pc : Int)
deriving DecidableEq, Repr

/-- The run status (rules R29, R30). -/
inductive Status where
  | running
  | exited
  | faulted (trap : Trap)
deriving DecidableEq, Repr

/-- One frame of the hidden call stack: the return slot index and the registers `CALL_ABI` saves (rules R25, R29). -/
structure Frame where
  ret   : Int
  saved : List (Reg × Option Word)
deriving DecidableEq, Repr

/-- Eleven registers, each a 64-bit value or no value (rules R20, R22; log entry 7). -/
abbrev RegFile := Vector (Option Word) 11

/-- Data memory: the listed bytes, in the canonical form `Memory.wf` (rule R40). -/
abbrev Memory := List Host.Cell

/-- The state record of Table S (rule R29). `ticks` is the model's own (log entry 11). -/
structure State where
  /-- The registers `x[0..10]` (rule R20). -/
  regs   : RegFile
  /-- The program counter, a slot index that never wraps (rule R23). -/
  pc     : Int
  /-- The hidden call stack, top first (rule R25). -/
  cs     : List Frame
  /-- Data memory (rule R40). -/
  mem    : Memory
  /-- The run status (rule R30). -/
  status : Status
  /-- The parameters, constants of the run (Table S). -/
  params : Params
  /-- The model's own count of completed instructions: the index of the environment's turns and of free values. -/
  ticks  : Nat
deriving DecidableEq, Repr

/-- The host-level fault. -/
inductive Fault where
  /-- Raised by `step` alone, from a state whose status is not Running: such a step is not defined (rule R30).
  Safe: the machine has stopped. -/
  | halted (status : Status)
deriving DecidableEq, Repr

/-- What the model declines to run. -/
inductive Refusal where
  /-- Raised by no instruction: every arm of `exec` has its meaning. Safe. -/
  | notModelled (mnemonic : String)
  /-- Raised by `step` alone, when `GROUPS` lacks `base32`, is not closed under inclusion or contains `packet`: the
  spec refuses such a configuration (rules R7, R350, R452; log entry 13). Safe. -/
  | inadmissibleConfiguration
deriving DecidableEq, Repr

/-- What a byte that memory does not list reads as (log entry 4). -/
def Memory.unlisted : Byte := 0#8

/-- The canonical form of memory: addresses strictly rising and below 2^64, and no entry equal to what an unlisted
address reads as. -/
abbrev Memory.wf (m : Memory) : Prop :=
  m.Pairwise (fun c d => c.1 < d.1) ∧ ∀ c ∈ m, c.1 < 2 ^ 64 ∧ c.2 ≠ Memory.unlisted

/-- The registers at entry: `ENTRY_REGS` where defined, otherwise no value (Table R, rule R450). -/
def RegFile.entry (regs : List (Reg × Word)) : RegFile :=
  #v[regs.lookup 0, regs.lookup 1, regs.lookup 2, regs.lookup 3, regs.lookup 4, regs.lookup 5, regs.lookup 6,
    regs.lookup 7, regs.lookup 8, regs.lookup 9, regs.lookup 10]

/-- The entry state of a run with parameters `p` and initial memory `m` (Table R, rule R450). -/
def State.entry (p : Params) (m : Memory) : State where
  regs   := RegFile.entry p.entryRegs
  pc     := p.entryPc
  cs     := []
  mem    := m
  status := .running
  params := p
  ticks  := 0

/-- The state after reset: the entry state of the reset parameters, with nothing listed in memory (rule R450; log
entries 1 to 5). -/
def State.reset : State := State.entry Params.default []

end Machine

end Sys2Proof
end

