-- ==== Sys2Proof/Machine/Ops.lean ====
section
/-! DEFINITION. The shared operations over registers and memory, and the taking of a fault. -/

namespace Sys2Proof.Machine

/-- The outcome of an instruction. -/
abbrev Result := Host.Outcome State Fault Refusal

/-! Taking a fault -/

/-- A fault: `status <- Faulted(F, info)`, and nothing else changes (rule R400). Terminal: there is no handler and no
return from it (rules R411, R412). -/
def State.raise (s : State) (t : Trap) : State := { s with status := .faulted t }

/-- The outcome of an instruction that raises a fault (rule R400, log entry 6). -/
def State.trap (s : State) (t : Trap) : Result := .next (s.raise t)

/-! Registers and the program counter -/

/-- The content of a register: a value, or no value (rule R22). -/
def State.reg (s : State) (r : Reg) : Option Word := s.regs[r]

/-- `x[i] <- v` (Table N). No register is read-only or hard-wired (rule R20). -/
def State.setReg (s : State) (r : Reg) (v : Word) : State := { s with regs := s.regs.set r (some v) }

/-- `x[i]` read by an instruction: a register that holds no value raises `UnwrittenRegister(i)` (rules R22, R408). -/
def State.withReg (s : State) (r : Reg) (k : Word → Result) : Result :=
  match s.reg r with
  | some v => k v
  | none => s.trap (.unwrittenRegister r)

/-- Memory replaced (rule R15 step 5). -/
def State.setMem (s : State) (m : Memory) : State := { s with mem := m }

/-- `pc <- t`, the last effect of an instruction (rule R15 step 7). -/
def State.goto (s : State) (t : Int) : State := { s with pc := t, ticks := s.ticks + 1 }

/-- An instruction of `n` slots that is no jump is done (rule R23). -/
def State.advance (s : State) (n : Nat) : State := s.goto (s.pc + n)

/-- An instruction of one slot writes `v` to `dst` and is done. -/
def State.retire (s : State) (dst : Reg) (v : Word) : Result := .next ((s.setReg dst v).advance 1)

/-! Bytes of memory -/

/-- The byte at an address. -/
def Memory.read : Memory → Nat → Byte
  | [], _ => Memory.unlisted
  | c :: rest, a => if c.1 = a then c.2 else Memory.read rest a

/-- Memory with an address no longer listed. -/
def Memory.erase (m : Memory) (a : Nat) : Memory := m.filter fun c => c.1 != a

/-- Memory with an entry put in its place. -/
def Memory.insert : Memory → Nat → Byte → Memory
  | [], a, v => [(a, v)]
  | c :: rest, a, v => if a < c.1 then (a, v) :: c :: rest else c :: Memory.insert rest a v

/-- Memory with the byte at `a` set to `v`, in canonical form. There is no byte at or above 2^64 (rule R40). -/
def Memory.write (m : Memory) (a : Nat) (v : Byte) : Memory :=
  if a < 2 ^ 64 then
    if v = Memory.unlisted then m.erase a else (m.erase a).insert a v
  else m

/-- Memory after several byte writes, in order. -/
def Memory.writeCells (m : Memory) (cells : List Host.Cell) : Memory := cells.foldl (fun m c => m.write c.1 c.2) m

/-! Values in memory -/

/-- The `n` bytes at `a` as a value in the host's byte order, zero extended (rule R42). -/
def Memory.load (e : Endian) (m : Memory) (a n : Nat) : Word :=
  assemble ((List.range n).map fun k => m.read (a + bytePlace e n k))

/-- The low `8n` bits of `v` stored to the `n` bytes at `a` in the host's byte order (rule R42). -/
def Memory.store (e : Endian) (m : Memory) (a n : Nat) (v : Word) : Memory :=
  (List.range n).foldl (fun m k => m.write (a + k) (byteOf v (bytePlace e n k))) m

/-- The reads of a torn access: `n` byte reads in the given order, the environment's writes before each (rule R45).
Answers the bytes by their distance from `a`, and the memory after. -/
def Memory.tornLoad (a : Nat) : List (Nat × List Host.Cell) → Memory → List (Nat × Byte) × Memory
  | [], m => ([], m)
  | (k, cells) :: rest, m =>
    let m := m.writeCells cells
    let (bytes, m') := Memory.tornLoad a rest m
    ((k, m.read (a + k)) :: bytes, m')

/-- The writes of a torn access: `n` byte writes in the given order, the environment's writes before each (rule R45). -/
def Memory.tornStore (e : Endian) (a n : Nat) (v : Word) : List (Nat × List Host.Cell) → Memory → Memory
  | [], m => m
  | (k, cells) :: rest, m =>
    Memory.tornStore e a n v rest ((m.writeCells cells).write (a + k) (byteOf v (bytePlace e n k)))

/-- The environment's turn at a value of the counter: a listed turn, then what follows the list (rule R48; log entry
10). -/
def Environment.turn (e : Environment) (t : Nat) : Option EnvTurn :=
  match e.turns[t]? with
  | some u => some u
  | none =>
    match e.rest with
    | .silent => none
    | .cycle us => us[(t - e.turns.length) % us.length]?
    | .free => some (Config.freeTurn t)

/-- The environment's turn in the current step (rule R420; log entry 10). -/
def State.turn (s : State) : Option EnvTurn := Environment.turn s.params.environment s.ticks

/-- The order of the bytes of a torn `n`-byte access in the current step: the environment's, if it names each of the
`n` bytes once; else ascending, with no writes between (rule R45; log entry 12). -/
def State.tornOrder (s : State) (n : Nat) : List (Nat × List Host.Cell) :=
  match s.turn with
  | some t => if (t.order.map (·.1)).isPerm (List.range n) then t.order else (List.range n).map fun k => (k, [])
  | none => (List.range n).map fun k => (k, [])

/-- Whether an access is misaligned: `ea mod n != 0` (rule R43). -/
def misaligned (ea : Word) (n : Nat) : Bool := ea.toNat % n != 0

/-- `MemRead(ea, n)` once admitted: the value, and memory after what the environment did meanwhile (rules R42, R45). -/
def State.memRead (s : State) (ea : Word) (n : Nat) : Word × Memory :=
  if misaligned ea n then
    let (bytes, m) := Memory.tornLoad ea.toNat (s.tornOrder n) s.mem
    (assemble ((List.range n).map fun k => (bytes.lookup (bytePlace s.params.hostEndian n k)).getD 0#8), m)
  else (s.mem.load s.params.hostEndian ea.toNat n, s.mem)

/-- `MemWrite(ea, n, v)` once admitted (rules R42, R45). -/
def State.memWrite (s : State) (ea : Word) (n : Nat) (v : Word) : Memory :=
  if misaligned ea n then Memory.tornStore s.params.hostEndian ea.toNat n v (s.tornOrder n) s.mem
  else s.mem.store s.params.hostEndian ea.toNat n v

/-! Admission of an access -/

/-- `ACCESSIBLE(addr, n, kind)` (rule R44; log entry 14). -/
def Params.admits (p : Params) (ea : Word) (n : Nat) (kind : AccessKind) : Bool :=
  p.accessible.any fun g => g.kind == kind && g.size == n && decide (g.first ≤ ea) && decide (ea ≤ g.last)

/-- The checks of an access in their order: Wraps, Misaligned, NotAccessible (rules R43, R44, R405). A misaligned atomic
is never performed. -/
def State.refuses (s : State) (ea : Word) (n : Nat) (kind : AccessKind) : Option MemReason :=
  if ea.toNat + n > 2 ^ 64 then some .wraps
  else if misaligned ea n && (kind == .atomic || s.params.misaligned == .fault) then some .misaligned
  else if Params.admits s.params ea n kind then none
  else some .notAccessible

/-- An access checked as a whole before any byte is transferred (rules R44, R405). -/
def State.withAccess (s : State) (ea : Word) (n : Nat) (kind : AccessKind) (k : Result) : Result :=
  match s.refuses ea n kind with
  | some reason => s.trap (.memoryFault ea n kind reason)
  | none => k

/-- `AtomicRMW(ea, n, f)` once admitted: the old value, and memory with `f` of it written back, as one access
(rule R47). -/
def State.atomicRMW (s : State) (ea : Word) (n : Nat) (f : Word → Word) : Word × Memory :=
  let old := s.mem.load s.params.hostEndian ea.toNat n
  (old, s.mem.store s.params.hostEndian ea.toNat n (f old))

end Sys2Proof.Machine
end

