-- ==== Sys2Proof/Machine/Alu32.lean ====
section
/-! DEFINITION. The 32-bit arithmetic instructions, class ALU (40_alu32.md, rules R100 to R132). -/

namespace Sys2Proof.Machine

/-- A K form of class ALU: `a = w[dst]`, `b = imm`, `x[dst] <- zext_64(f a b)` (rule R100). -/
def alu32K (f : Word32 → Word32 → Word32) (dst : Reg) (imm : Word32) (s : State) : Result :=
  s.withReg dst fun a => s.retire dst (zext64 (f (low32 a) imm))

/-- An X form of class ALU: `a = w[dst]`, `b = w[src]`, `x[dst] <- zext_64(f a b)` (rule R100). -/
def alu32X (f : Word32 → Word32 → Word32) (dst src : Reg) (s : State) : Result :=
  s.withReg dst fun a => s.withReg src fun b => s.retire dst (zext64 (f (low32 a) (low32 b)))

/-- ADD32_K, rule R102: `a = w[dst]; b = imm; r = a + b; x[dst] <- zext_64(r); pc <- pc + 1`. -/
def execAdd32K (dst : Reg) (imm : Word32) (s : State) : Result := alu32K Alu.add dst imm s

/-- ADD32_X, rule R103: `a = w[dst]; b = w[src]; r = a + b; x[dst] <- zext_64(r); pc <- pc + 1`. -/
def execAdd32X (dst src : Reg) (s : State) : Result := alu32X Alu.add dst src s

/-- SUB32_K, rule R104: `a = w[dst]; b = imm; r = a - b; x[dst] <- zext_64(r); pc <- pc + 1`. -/
def execSub32K (dst : Reg) (imm : Word32) (s : State) : Result := alu32K Alu.sub dst imm s

/-- SUB32_X, rule R105: `a = w[dst]; b = w[src]; r = a - b; x[dst] <- zext_64(r); pc <- pc + 1`. -/
def execSub32X (dst src : Reg) (s : State) : Result := alu32X Alu.sub dst src s

/-- MUL32_K, rule R106: `a = w[dst]; b = imm; r = trunc_32(uint(a) * uint(b)); x[dst] <- zext_64(r); pc <- pc + 1`.
-/
def execMul32K (dst : Reg) (imm : Word32) (s : State) : Result := alu32K Alu.mul dst imm s

/-- MUL32_X, rule R107: `a = w[dst]; b = w[src]; r = trunc_32(uint(a) * uint(b)); x[dst] <- zext_64(r); pc <- pc +
1`. -/
def execMul32X (dst src : Reg) (s : State) : Result := alu32X Alu.mul dst src s

/-- DIV32_K, rule R108: `a = w[dst]; b = imm; r = (uint(b) = 0) ? 0 : floor(uint(a) / uint(b)); x[dst] <-
zext_64(r); pc <- pc + 1`. -/
def execDiv32K (dst : Reg) (imm : Word32) (s : State) : Result := alu32K Alu.div dst imm s

/-- DIV32_X, rule R109: `a = w[dst]; b = w[src]; r = (uint(b) = 0) ? 0 : floor(uint(a) / uint(b)); x[dst] <-
zext_64(r); pc <- pc + 1`. -/
def execDiv32X (dst src : Reg) (s : State) : Result := alu32X Alu.div dst src s

/-- SDIV32_K, rule R110: `a = w[dst]; b = imm; r = (uint(b) = 0) ? 0 : trunc_32(tdiv(sint(a), sint(b))); x[dst] <-
zext_64(r); pc <- pc + 1`. -/
def execSdiv32K (dst : Reg) (imm : Word32) (s : State) : Result := alu32K Alu.sdiv dst imm s

/-- SDIV32_X, rule R111: `a = w[dst]; b = w[src]; r = (uint(b) = 0) ? 0 : trunc_32(tdiv(sint(a), sint(b))); x[dst]
<- zext_64(r); pc <- pc + 1`. -/
def execSdiv32X (dst src : Reg) (s : State) : Result := alu32X Alu.sdiv dst src s

/-- OR32_K, rule R112: `a = w[dst]; b = imm; r = a OR b; x[dst] <- zext_64(r); pc <- pc + 1`. -/
def execOr32K (dst : Reg) (imm : Word32) (s : State) : Result := alu32K Alu.or dst imm s

/-- OR32_X, rule R113: `a = w[dst]; b = w[src]; r = a OR b; x[dst] <- zext_64(r); pc <- pc + 1`. -/
def execOr32X (dst src : Reg) (s : State) : Result := alu32X Alu.or dst src s

/-- AND32_K, rule R114: `a = w[dst]; b = imm; r = a AND b; x[dst] <- zext_64(r); pc <- pc + 1`. -/
def execAnd32K (dst : Reg) (imm : Word32) (s : State) : Result := alu32K Alu.and dst imm s

/-- AND32_X, rule R115: `a = w[dst]; b = w[src]; r = a AND b; x[dst] <- zext_64(r); pc <- pc + 1`. -/
def execAnd32X (dst src : Reg) (s : State) : Result := alu32X Alu.and dst src s

/-- LSH32_K, rule R116: `a = w[dst]; b = imm; sh = uint(b[4:0]); r = trunc_32(uint(a) * 2^sh); x[dst] <- zext_64(r);
pc <- pc + 1`. -/
def execLsh32K (dst : Reg) (imm : Word32) (s : State) : Result := alu32K Alu.lsh32 dst imm s

/-- LSH32_X, rule R117: `a = w[dst]; b = w[src]; sh = uint(b[4:0]); r = trunc_32(uint(a) * 2^sh); x[dst] <-
zext_64(r); pc <- pc + 1`. -/
def execLsh32X (dst src : Reg) (s : State) : Result := alu32X Alu.lsh32 dst src s

/-- RSH32_K, rule R118: `a = w[dst]; b = imm; sh = uint(b[4:0]); r = floor(uint(a) / 2^sh); x[dst] <- zext_64(r); pc
<- pc + 1`. -/
def execRsh32K (dst : Reg) (imm : Word32) (s : State) : Result := alu32K Alu.rsh32 dst imm s

/-- RSH32_X, rule R119: `a = w[dst]; b = w[src]; sh = uint(b[4:0]); r = floor(uint(a) / 2^sh); x[dst] <- zext_64(r);
pc <- pc + 1`. -/
def execRsh32X (dst src : Reg) (s : State) : Result := alu32X Alu.rsh32 dst src s

/-- NEG32, rule R120: `a = w[dst]; r = 0 - a; x[dst] <- zext_64(r); pc <- pc + 1`. -/
def execNeg32 (dst : Reg) (s : State) : Result := s.withReg dst fun a => s.retire dst (zext64 (Alu.neg (low32 a)))

/-- MOD32_K, rule R121: `a = w[dst]; b = imm; r = (uint(b) = 0) ? a : uint(a) mod uint(b); x[dst] <- zext_64(r); pc
<- pc + 1`. -/
def execMod32K (dst : Reg) (imm : Word32) (s : State) : Result := alu32K Alu.mod dst imm s

/-- MOD32_X, rule R122: `a = w[dst]; b = w[src]; r = (uint(b) = 0) ? a : uint(a) mod uint(b); x[dst] <- zext_64(r);
pc <- pc + 1`. -/
def execMod32X (dst src : Reg) (s : State) : Result := alu32X Alu.mod dst src s

/-- SMOD32_K, rule R123: `a = w[dst]; b = imm; r = (uint(b) = 0) ? a : trunc_32(tmod(sint(a), sint(b))); x[dst] <-
zext_64(r); pc <- pc + 1`. -/
def execSmod32K (dst : Reg) (imm : Word32) (s : State) : Result := alu32K Alu.smod dst imm s

/-- SMOD32_X, rule R124: `a = w[dst]; b = w[src]; r = (uint(b) = 0) ? a : trunc_32(tmod(sint(a), sint(b))); x[dst]
<- zext_64(r); pc <- pc + 1`. -/
def execSmod32X (dst src : Reg) (s : State) : Result := alu32X Alu.smod dst src s

/-- XOR32_K, rule R125: `a = w[dst]; b = imm; r = a XOR b; x[dst] <- zext_64(r); pc <- pc + 1`. -/
def execXor32K (dst : Reg) (imm : Word32) (s : State) : Result := alu32K Alu.xor dst imm s

/-- XOR32_X, rule R126: `a = w[dst]; b = w[src]; r = a XOR b; x[dst] <- zext_64(r); pc <- pc + 1`. -/
def execXor32X (dst src : Reg) (s : State) : Result := alu32X Alu.xor dst src s

/-- MOV32_K, rule R127: `b = imm; r = b; x[dst] <- zext_64(r); pc <- pc + 1`. -/
def execMov32K (dst : Reg) (imm : Word32) (s : State) : Result := s.retire dst (zext64 imm)

/-- MOV32_X, rule R128: `b = w[src]; r = b; x[dst] <- zext_64(r); pc <- pc + 1`. -/
def execMov32X (dst src : Reg) (s : State) : Result := s.withReg src fun b => s.retire dst (zext64 (low32 b))

/-- MOVSX32_8, rule R129: `v = x[src][7:0]; r = sext_32(v); x[dst] <- zext_64(r); pc <- pc + 1`. -/
def execMovsx32_8 (dst src : Reg) (s : State) : Result :=
  s.withReg src fun b => s.retire dst (zext64 (sextLow 8 (low32 b)))

/-- MOVSX32_16, rule R130: `v = x[src][15:0]; r = sext_32(v); x[dst] <- zext_64(r); pc <- pc + 1`. -/
def execMovsx32_16 (dst src : Reg) (s : State) : Result :=
  s.withReg src fun b => s.retire dst (zext64 (sextLow 16 (low32 b)))

/-- ARSH32_K, rule R131: `a = w[dst]; b = imm; sh = uint(b[4:0]); r = trunc_32(floor(sint(a) / 2^sh)); x[dst] <-
zext_64(r); pc <- pc + 1`. -/
def execArsh32K (dst : Reg) (imm : Word32) (s : State) : Result := alu32K Alu.arsh32 dst imm s

/-- ARSH32_X, rule R132: `a = w[dst]; b = w[src]; sh = uint(b[4:0]); r = trunc_32(floor(sint(a) / 2^sh)); x[dst] <-
zext_64(r); pc <- pc + 1`. -/
def execArsh32X (dst src : Reg) (s : State) : Result := alu32X Alu.arsh32 dst src s

end Sys2Proof.Machine
end

