-- ==== Sys2Proof/Machine/Alu64.lean ====
section
/-! DEFINITION. The 64-bit arithmetic instructions, class ALU64 (41_alu64.md, rules R140 to R173). -/

namespace Sys2Proof.Machine

/-- A K form of class ALU64: `a = x[dst]`, `b = sext_64(imm)`, `x[dst] <- f a b` (rule R140). -/
def alu64K (f : Word → Word → Word) (dst : Reg) (imm : Word32) (s : State) : Result :=
  s.withReg dst fun a => s.retire dst (f a (sextImm imm))

/-- An X form of class ALU64: `a = x[dst]`, `b = x[src]`, `x[dst] <- f a b` (rule R140). -/
def alu64X (f : Word → Word → Word) (dst src : Reg) (s : State) : Result :=
  s.withReg dst fun a => s.withReg src fun b => s.retire dst (f a b)

/-- ADD64_K, rule R141: `a = x[dst]; b = sext_64(imm); r = a + b; x[dst] <- r; pc <- pc + 1`. -/
def execAdd64K (dst : Reg) (imm : Word32) (s : State) : Result := alu64K Alu.add dst imm s

/-- ADD64_X, rule R142: `a = x[dst]; b = x[src]; r = a + b; x[dst] <- r; pc <- pc + 1`. -/
def execAdd64X (dst src : Reg) (s : State) : Result := alu64X Alu.add dst src s

/-- SUB64_K, rule R143: `a = x[dst]; b = sext_64(imm); r = a - b; x[dst] <- r; pc <- pc + 1`. -/
def execSub64K (dst : Reg) (imm : Word32) (s : State) : Result := alu64K Alu.sub dst imm s

/-- SUB64_X, rule R144: `a = x[dst]; b = x[src]; r = a - b; x[dst] <- r; pc <- pc + 1`. -/
def execSub64X (dst src : Reg) (s : State) : Result := alu64X Alu.sub dst src s

/-- MUL64_K, rule R145: `a = x[dst]; b = sext_64(imm); r = trunc_64(uint(a) * uint(b)); x[dst] <- r; pc <- pc + 1`.
-/
def execMul64K (dst : Reg) (imm : Word32) (s : State) : Result := alu64K Alu.mul dst imm s

/-- MUL64_X, rule R146: `a = x[dst]; b = x[src]; r = trunc_64(uint(a) * uint(b)); x[dst] <- r; pc <- pc + 1`. -/
def execMul64X (dst src : Reg) (s : State) : Result := alu64X Alu.mul dst src s

/-- DIV64_K, rule R147: `a = x[dst]; b = sext_64(imm); r = (uint(b) = 0) ? 0 : floor(uint(a) / uint(b)); x[dst] <-
r; pc <- pc + 1`. -/
def execDiv64K (dst : Reg) (imm : Word32) (s : State) : Result := alu64K Alu.div dst imm s

/-- DIV64_X, rule R148: `a = x[dst]; b = x[src]; r = (uint(b) = 0) ? 0 : floor(uint(a) / uint(b)); x[dst] <- r; pc
<- pc + 1`. -/
def execDiv64X (dst src : Reg) (s : State) : Result := alu64X Alu.div dst src s

/-- SDIV64_K, rule R149: `a = x[dst]; b = sext_64(imm); r = (uint(b) = 0) ? 0 : trunc_64(tdiv(sint(a), sint(b)));
x[dst] <- r; pc <- pc + 1`. -/
def execSdiv64K (dst : Reg) (imm : Word32) (s : State) : Result := alu64K Alu.sdiv dst imm s

/-- SDIV64_X, rule R150: `a = x[dst]; b = x[src]; r = (uint(b) = 0) ? 0 : trunc_64(tdiv(sint(a), sint(b))); x[dst]
<- r; pc <- pc + 1`. -/
def execSdiv64X (dst src : Reg) (s : State) : Result := alu64X Alu.sdiv dst src s

/-- OR64_K, rule R151: `a = x[dst]; b = sext_64(imm); r = a OR b; x[dst] <- r; pc <- pc + 1`. -/
def execOr64K (dst : Reg) (imm : Word32) (s : State) : Result := alu64K Alu.or dst imm s

/-- OR64_X, rule R152: `a = x[dst]; b = x[src]; r = a OR b; x[dst] <- r; pc <- pc + 1`. -/
def execOr64X (dst src : Reg) (s : State) : Result := alu64X Alu.or dst src s

/-- AND64_K, rule R153: `a = x[dst]; b = sext_64(imm); r = a AND b; x[dst] <- r; pc <- pc + 1`. -/
def execAnd64K (dst : Reg) (imm : Word32) (s : State) : Result := alu64K Alu.and dst imm s

/-- AND64_X, rule R154: `a = x[dst]; b = x[src]; r = a AND b; x[dst] <- r; pc <- pc + 1`. -/
def execAnd64X (dst src : Reg) (s : State) : Result := alu64X Alu.and dst src s

/-- LSH64_K, rule R155: `a = x[dst]; b = sext_64(imm); sh = uint(b[5:0]); r = trunc_64(uint(a) * 2^sh); x[dst] <- r;
pc <- pc + 1`. -/
def execLsh64K (dst : Reg) (imm : Word32) (s : State) : Result := alu64K Alu.lsh64 dst imm s

/-- LSH64_X, rule R156: `a = x[dst]; b = x[src]; sh = uint(b[5:0]); r = trunc_64(uint(a) * 2^sh); x[dst] <- r; pc <-
pc + 1`. -/
def execLsh64X (dst src : Reg) (s : State) : Result := alu64X Alu.lsh64 dst src s

/-- RSH64_K, rule R157: `a = x[dst]; b = sext_64(imm); sh = uint(b[5:0]); r = floor(uint(a) / 2^sh); x[dst] <- r; pc
<- pc + 1`. -/
def execRsh64K (dst : Reg) (imm : Word32) (s : State) : Result := alu64K Alu.rsh64 dst imm s

/-- RSH64_X, rule R158: `a = x[dst]; b = x[src]; sh = uint(b[5:0]); r = floor(uint(a) / 2^sh); x[dst] <- r; pc <- pc
+ 1`. -/
def execRsh64X (dst src : Reg) (s : State) : Result := alu64X Alu.rsh64 dst src s

/-- NEG64, rule R159: `a = x[dst]; r = 0 - a; x[dst] <- r; pc <- pc + 1`. -/
def execNeg64 (dst : Reg) (s : State) : Result := s.withReg dst fun a => s.retire dst (Alu.neg a)

/-- MOD64_K, rule R160: `a = x[dst]; b = sext_64(imm); r = (uint(b) = 0) ? a : uint(a) mod uint(b); x[dst] <- r; pc
<- pc + 1`. -/
def execMod64K (dst : Reg) (imm : Word32) (s : State) : Result := alu64K Alu.mod dst imm s

/-- MOD64_X, rule R161: `a = x[dst]; b = x[src]; r = (uint(b) = 0) ? a : uint(a) mod uint(b); x[dst] <- r; pc <- pc
+ 1`. -/
def execMod64X (dst src : Reg) (s : State) : Result := alu64X Alu.mod dst src s

/-- SMOD64_K, rule R162: `a = x[dst]; b = sext_64(imm); r = (uint(b) = 0) ? a : trunc_64(tmod(sint(a), sint(b)));
x[dst] <- r; pc <- pc + 1`. -/
def execSmod64K (dst : Reg) (imm : Word32) (s : State) : Result := alu64K Alu.smod dst imm s

/-- SMOD64_X, rule R163: `a = x[dst]; b = x[src]; r = (uint(b) = 0) ? a : trunc_64(tmod(sint(a), sint(b))); x[dst]
<- r; pc <- pc + 1`. -/
def execSmod64X (dst src : Reg) (s : State) : Result := alu64X Alu.smod dst src s

/-- XOR64_K, rule R164: `a = x[dst]; b = sext_64(imm); r = a XOR b; x[dst] <- r; pc <- pc + 1`. -/
def execXor64K (dst : Reg) (imm : Word32) (s : State) : Result := alu64K Alu.xor dst imm s

/-- XOR64_X, rule R165: `a = x[dst]; b = x[src]; r = a XOR b; x[dst] <- r; pc <- pc + 1`. -/
def execXor64X (dst src : Reg) (s : State) : Result := alu64X Alu.xor dst src s

/-- MOV64_K, rule R166: `b = sext_64(imm); r = b; x[dst] <- r; pc <- pc + 1`. -/
def execMov64K (dst : Reg) (imm : Word32) (s : State) : Result := s.retire dst (sextImm imm)

/-- MOV64_X, rule R167: `b = x[src]; r = b; x[dst] <- r; pc <- pc + 1`. -/
def execMov64X (dst src : Reg) (s : State) : Result := s.withReg src fun b => s.retire dst b

/-- MOVSX64_8, rule R168: `v = x[src][7:0]; x[dst] <- sext_64(v); pc <- pc + 1`. -/
def execMovsx64_8 (dst src : Reg) (s : State) : Result := s.withReg src fun b => s.retire dst (sextLow 8 b)

/-- MOVSX64_16, rule R169: `v = x[src][15:0]; x[dst] <- sext_64(v); pc <- pc + 1`. -/
def execMovsx64_16 (dst src : Reg) (s : State) : Result := s.withReg src fun b => s.retire dst (sextLow 16 b)

/-- MOVSX64_32, rule R170: `v = x[src][31:0]; x[dst] <- sext_64(v); pc <- pc + 1`. -/
def execMovsx64_32 (dst src : Reg) (s : State) : Result := s.withReg src fun b => s.retire dst (sextLow 32 b)

/-- ARSH64_K, rule R171: `a = x[dst]; b = sext_64(imm); sh = uint(b[5:0]); r = trunc_64(floor(sint(a) / 2^sh));
x[dst] <- r; pc <- pc + 1`. -/
def execArsh64K (dst : Reg) (imm : Word32) (s : State) : Result := alu64K Alu.arsh64 dst imm s

/-- ARSH64_X, rule R172: `a = x[dst]; b = x[src]; sh = uint(b[5:0]); r = trunc_64(floor(sint(a) / 2^sh)); x[dst] <-
r; pc <- pc + 1`. -/
def execArsh64X (dst src : Reg) (s : State) : Result := alu64X Alu.arsh64 dst src s

end Sys2Proof.Machine
end

