-- ==== Sys2Proof/Machine/Atomic.lean ====
section
/-! DEFINITION. The atomic read-modify-write instructions (45_atomic.md, rules R300 to R322). -/

namespace Sys2Proof.Machine

/-- An atomic without FETCH: the `n` bytes at `x[dst] + sext_64(offset)` become `f old s`, and no register is written
(rules R300, R301). -/
def atomicOp (n : Nat) (f : Word → Word → Word) (dst src : Reg) (offset : BitVec 16) (s : State) : Result :=
  s.withReg dst fun base => s.withReg src fun v =>
    let ea := effectiveAddress base offset
    s.withAccess ea n .atomic
      (.next ((s.setMem (s.atomicRMW ea n fun old => f old v).2).advance 1))

/-- An atomic with FETCH, or an exchange: the same, and the old value goes to `x[src]` (rule R301). -/
def atomicFetch (n : Nat) (f : Word → Word → Word) (dst src : Reg) (offset : BitVec 16) (s : State) : Result :=
  s.withReg dst fun base => s.withReg src fun v =>
    let ea := effectiveAddress base offset
    s.withAccess ea n .atomic
      (let r := s.atomicRMW ea n fun old => f old v
       (s.setMem r.2).retire src r.1)

/-- Compare and exchange: memory becomes `s` if it equals the low `8n` bits of R0, and the old value goes to R0
(rules R301, R312, R322). The old value arrives zero extended. -/
def atomicCmpxchg (n : Nat) (dst src : Reg) (offset : BitVec 16) (s : State) : Result :=
  s.withReg dst fun base => s.withReg src fun v => s.withReg 0 fun r0 =>
    let ea := effectiveAddress base offset
    s.withAccess ea n .atomic
      (let r := s.atomicRMW ea n fun old => if old.setWidth (8 * n) = r0.setWidth (8 * n) then v else old
       (s.setMem r.2).retire 0 r.1)

/-- An exchange puts the register operand in memory (rules R311, R321). -/
def exchange (_old v : Word) : Word := v

/-- A 32-bit atomic function on the low halves (rule R300). -/
def on32 (f : Word32 → Word32 → Word32) (old v : Word) : Word := zext64 (f (low32 old) (low32 v))

/-- ATOMIC_ADD32, rule R303: `ea = x[dst] + sext_64(offset); s = w[src]; AtomicRMW(ea, 4, old -> old + s); pc <- pc
+ 1`. -/
def execAtomicAdd32 (dst src : Reg) (offset : BitVec 16) (s : State) : Result :=
  atomicOp 4 (on32 Alu.add) dst src offset s

/-- ATOMIC_OR32, rule R304: `ea = x[dst] + sext_64(offset); s = w[src]; AtomicRMW(ea, 4, old -> old OR s); pc <- pc
+ 1`. -/
def execAtomicOr32 (dst src : Reg) (offset : BitVec 16) (s : State) : Result :=
  atomicOp 4 (on32 Alu.or) dst src offset s

/-- ATOMIC_AND32, rule R305: `ea = x[dst] + sext_64(offset); s = w[src]; AtomicRMW(ea, 4, old -> old AND s); pc <-
pc + 1`. -/
def execAtomicAnd32 (dst src : Reg) (offset : BitVec 16) (s : State) : Result :=
  atomicOp 4 (on32 Alu.and) dst src offset s

/-- ATOMIC_XOR32, rule R306: `ea = x[dst] + sext_64(offset); s = w[src]; AtomicRMW(ea, 4, old -> old XOR s); pc <-
pc + 1`. -/
def execAtomicXor32 (dst src : Reg) (offset : BitVec 16) (s : State) : Result :=
  atomicOp 4 (on32 Alu.xor) dst src offset s

/-- ATOMIC_FETCH_ADD32, rule R307: `ea = x[dst] + sext_64(offset); s = w[src]; old = AtomicRMW(ea, 4, old -> old +
s); x[src] <- zext_64(old); pc <- pc + 1`. -/
def execAtomicFetchAdd32 (dst src : Reg) (offset : BitVec 16) (s : State) : Result :=
  atomicFetch 4 (on32 Alu.add) dst src offset s

/-- ATOMIC_FETCH_OR32, rule R308: `ea = x[dst] + sext_64(offset); s = w[src]; old = AtomicRMW(ea, 4, old -> old OR
s); x[src] <- zext_64(old); pc <- pc + 1`. -/
def execAtomicFetchOr32 (dst src : Reg) (offset : BitVec 16) (s : State) : Result :=
  atomicFetch 4 (on32 Alu.or) dst src offset s

/-- ATOMIC_FETCH_AND32, rule R309: `ea = x[dst] + sext_64(offset); s = w[src]; old = AtomicRMW(ea, 4, old -> old AND
s); x[src] <- zext_64(old); pc <- pc + 1`. -/
def execAtomicFetchAnd32 (dst src : Reg) (offset : BitVec 16) (s : State) : Result :=
  atomicFetch 4 (on32 Alu.and) dst src offset s

/-- ATOMIC_FETCH_XOR32, rule R310: `ea = x[dst] + sext_64(offset); s = w[src]; old = AtomicRMW(ea, 4, old -> old XOR
s); x[src] <- zext_64(old); pc <- pc + 1`. -/
def execAtomicFetchXor32 (dst src : Reg) (offset : BitVec 16) (s : State) : Result :=
  atomicFetch 4 (on32 Alu.xor) dst src offset s

/-- ATOMIC_XCHG32, rule R311: `ea = x[dst] + sext_64(offset); s = w[src]; old = AtomicRMW(ea, 4, old -> s); x[src]
<- zext_64(old); pc <- pc + 1`. -/
def execAtomicXchg32 (dst src : Reg) (offset : BitVec 16) (s : State) : Result :=
  atomicFetch 4 exchange dst src offset s

/-- ATOMIC_CMPXCHG32, rule R312: `ea = x[dst] + sext_64(offset); s = w[src]; e = w[0]; old = AtomicRMW(ea, 4, old ->
(old = e) ? s : old); x[0] <- zext_64(old); pc <- pc + 1`. -/
def execAtomicCmpxchg32 (dst src : Reg) (offset : BitVec 16) (s : State) : Result :=
  atomicCmpxchg 4 dst src offset s

/-- ATOMIC_ADD64, rule R313: `ea = x[dst] + sext_64(offset); s = x[src]; AtomicRMW(ea, 8, old -> old + s); pc <- pc
+ 1`. -/
def execAtomicAdd64 (dst src : Reg) (offset : BitVec 16) (s : State) : Result :=
  atomicOp 8 Alu.add dst src offset s

/-- ATOMIC_OR64, rule R314: `ea = x[dst] + sext_64(offset); s = x[src]; AtomicRMW(ea, 8, old -> old OR s); pc <- pc
+ 1`. -/
def execAtomicOr64 (dst src : Reg) (offset : BitVec 16) (s : State) : Result := atomicOp 8 Alu.or dst src offset s

/-- ATOMIC_AND64, rule R315: `ea = x[dst] + sext_64(offset); s = x[src]; AtomicRMW(ea, 8, old -> old AND s); pc <-
pc + 1`. -/
def execAtomicAnd64 (dst src : Reg) (offset : BitVec 16) (s : State) : Result :=
  atomicOp 8 Alu.and dst src offset s

/-- ATOMIC_XOR64, rule R316: `ea = x[dst] + sext_64(offset); s = x[src]; AtomicRMW(ea, 8, old -> old XOR s); pc <-
pc + 1`. -/
def execAtomicXor64 (dst src : Reg) (offset : BitVec 16) (s : State) : Result :=
  atomicOp 8 Alu.xor dst src offset s

/-- ATOMIC_FETCH_ADD64, rule R317: `ea = x[dst] + sext_64(offset); s = x[src]; old = AtomicRMW(ea, 8, old -> old +
s); x[src] <- old; pc <- pc + 1`. -/
def execAtomicFetchAdd64 (dst src : Reg) (offset : BitVec 16) (s : State) : Result :=
  atomicFetch 8 Alu.add dst src offset s

/-- ATOMIC_FETCH_OR64, rule R318: `ea = x[dst] + sext_64(offset); s = x[src]; old = AtomicRMW(ea, 8, old -> old OR
s); x[src] <- old; pc <- pc + 1`. -/
def execAtomicFetchOr64 (dst src : Reg) (offset : BitVec 16) (s : State) : Result :=
  atomicFetch 8 Alu.or dst src offset s

/-- ATOMIC_FETCH_AND64, rule R319: `ea = x[dst] + sext_64(offset); s = x[src]; old = AtomicRMW(ea, 8, old -> old AND
s); x[src] <- old; pc <- pc + 1`. -/
def execAtomicFetchAnd64 (dst src : Reg) (offset : BitVec 16) (s : State) : Result :=
  atomicFetch 8 Alu.and dst src offset s

/-- ATOMIC_FETCH_XOR64, rule R320: `ea = x[dst] + sext_64(offset); s = x[src]; old = AtomicRMW(ea, 8, old -> old XOR
s); x[src] <- old; pc <- pc + 1`. -/
def execAtomicFetchXor64 (dst src : Reg) (offset : BitVec 16) (s : State) : Result :=
  atomicFetch 8 Alu.xor dst src offset s

/-- ATOMIC_XCHG64, rule R321: `ea = x[dst] + sext_64(offset); s = x[src]; old = AtomicRMW(ea, 8, old -> s); x[src]
<- old; pc <- pc + 1`. -/
def execAtomicXchg64 (dst src : Reg) (offset : BitVec 16) (s : State) : Result :=
  atomicFetch 8 exchange dst src offset s

/-- ATOMIC_CMPXCHG64, rule R322: `ea = x[dst] + sext_64(offset); s = x[src]; e = x[0]; old = AtomicRMW(ea, 8, old ->
(old = e) ? s : old); x[0] <- old; pc <- pc + 1`. -/
def execAtomicCmpxchg64 (dst src : Reg) (offset : BitVec 16) (s : State) : Result :=
  atomicCmpxchg 8 dst src offset s

end Sys2Proof.Machine
end

