-- ==== Sys2Proof/Machine/ByteSwap.lean ====
section
/-! DEFINITION. The byte swap instructions (42_byteswap.md, rules R180 to R189). -/

namespace Sys2Proof.Machine

/-- A byte swap of width `n`: `v = x[dst][n-1:0]`, `x[dst] <- zext_64(f v)` (rule R180). -/
def swapReg (n : Nat) (f : BitVec n → BitVec n) (dst : Reg) (s : State) : Result :=
  s.withReg dst fun a => s.retire dst ((f (a.setWidth n)).setWidth 64)

/-- LE16, rule R181: `v = x[dst][15:0]; r = le_16(v); x[dst] <- zext_64(r); pc <- pc + 1`. -/
def execLe16 (dst : Reg) (s : State) : Result := swapReg 16 (toOrder .little s.params.hostEndian bswap16) dst s

/-- LE32, rule R182: `v = x[dst][31:0]; r = le_32(v); x[dst] <- zext_64(r); pc <- pc + 1`. -/
def execLe32 (dst : Reg) (s : State) : Result := swapReg 32 (toOrder .little s.params.hostEndian bswap32) dst s

/-- LE64, rule R183: `v = x[dst][63:0]; r = le_64(v); x[dst] <- r; pc <- pc + 1`. -/
def execLe64 (dst : Reg) (s : State) : Result := swapReg 64 (toOrder .little s.params.hostEndian bswap64) dst s

/-- BE16, rule R184: `v = x[dst][15:0]; r = be_16(v); x[dst] <- zext_64(r); pc <- pc + 1`. -/
def execBe16 (dst : Reg) (s : State) : Result := swapReg 16 (toOrder .big s.params.hostEndian bswap16) dst s

/-- BE32, rule R185: `v = x[dst][31:0]; r = be_32(v); x[dst] <- zext_64(r); pc <- pc + 1`. -/
def execBe32 (dst : Reg) (s : State) : Result := swapReg 32 (toOrder .big s.params.hostEndian bswap32) dst s

/-- BE64, rule R186: `v = x[dst][63:0]; r = be_64(v); x[dst] <- r; pc <- pc + 1`. -/
def execBe64 (dst : Reg) (s : State) : Result := swapReg 64 (toOrder .big s.params.hostEndian bswap64) dst s

/-- BSWAP16, rule R187: `v = x[dst][15:0]; r = bswap_16(v); x[dst] <- zext_64(r); pc <- pc + 1`. -/
def execBswap16 (dst : Reg) (s : State) : Result := swapReg 16 bswap16 dst s

/-- BSWAP32, rule R188: `v = x[dst][31:0]; r = bswap_32(v); x[dst] <- zext_64(r); pc <- pc + 1`. -/
def execBswap32 (dst : Reg) (s : State) : Result := swapReg 32 bswap32 dst s

/-- BSWAP64, rule R189: `v = x[dst][63:0]; r = bswap_64(v); x[dst] <- r; pc <- pc + 1`. -/
def execBswap64 (dst : Reg) (s : State) : Result := swapReg 64 bswap64 dst s

end Sys2Proof.Machine
end

