-- ==== Sys2Proof/Machine/Platform.lean ====
section
/-! DEFINITION. What the platform supplies: the meaning of its expressions and relations (rules R8, R251; log entry 8),
helper calls, address queries, the call stack with `CALL_ABI`, and the environment's doing. -/

namespace Sys2Proof.Machine

/-- Where a relation or a convention of the platform is used, with what its free values depend on. -/
structure PlatformSite where
  site   : FreeSite
  ticks  : Nat
  endian : Endian
  regs   : RegFile
  mem    : Memory
deriving DecidableEq, Repr

/-- What a relation of the platform works on: registers, memory, and its own variables. -/
structure PlatformState where
  regs : RegFile
  mem  : Memory
  vars : List (Nat × Option Word)
deriving DecidableEq, Repr

/-- The site of a use of the platform in a state. -/
def State.siteOf (s : State) (site : FreeSite) : PlatformSite :=
  { site := site, ticks := s.ticks, endian := s.params.hostEndian, regs := s.regs, mem := s.mem }

/-- What a relation starts on in a state. -/
def State.platformState (s : State) : PlatformState := { regs := s.regs, mem := s.mem, vars := [] }

/-- A two-operand function of the platform's expressions. -/
def PlatformOp.apply (o : PlatformOp) (a b : Word) : Word :=
  match o with
  | .add => Alu.add a b
  | .sub => Alu.sub a b
  | .mul => Alu.mul a b
  | .div => Alu.div a b
  | .mod => Alu.mod a b
  | .and => Alu.and a b
  | .or => Alu.or a b
  | .xor => Alu.xor a b
  | .shl => Alu.lsh64 a b
  | .shr => Alu.rsh64 a b
  | .sar => Alu.arsh64 a b
  | .eq => if a = b then 1#64 else 0#64
  | .ltUnsigned => if a.toNat < b.toNat then 1#64 else 0#64
  | .ltSigned => if a.toInt < b.toInt then 1#64 else 0#64

/-- The value of an expression, if it has one. -/
def PlatformExpr.eval (c : PlatformSite) (x : PlatformState) : PlatformExpr → Option Word
  | .absent => none
  | .const v => some v
  | .reg r => x.regs[r]
  | .var k => (x.vars.lookup k).bind id
  | .ticks => some (BitVec.ofNat 64 c.ticks)
  | .load n ea => (PlatformExpr.eval c x ea).map fun a => x.mem.load c.endian a.toNat n
  | .free key => (PlatformExpr.eval c x key).bind fun k => Config.freeWord c.site c.ticks c.regs c.mem k
  | .op o a b =>
    match PlatformExpr.eval c x a, PlatformExpr.eval c x b with
    | some a, some b => some (PlatformOp.apply o a b)
    | _, _ => none
  | .holds e => some (if (PlatformExpr.eval c x e).isSome then 1#64 else 0#64)

/-- A function done `n` times. -/
def repeated {α : Type} (f : α → α) : Nat → α → α
  | 0, x => x
  | n + 1, x => repeated f n (f x)

/-- The states a relation relates a state to, in some order (rule R251; log entry 8). -/
def HelperRel.outcomes (c : PlatformSite) : HelperRel → PlatformState → List PlatformState
  | .skip => fun x => [x]
  | .fail => fun _ => []
  | .setReg r e => fun x => [{ x with regs := x.regs.set r (PlatformExpr.eval c x e) }]
  | .setVar k e => fun x => [{ x with vars := (k, PlatformExpr.eval c x e) :: x.vars }]
  | .store n ea v => fun x =>
    match PlatformExpr.eval c x ea, PlatformExpr.eval c x v with
    | some a, some w => [{ x with mem := x.mem.store c.endian a.toNat n w }]
    | _, _ => []
  | .anyMem => fun x => [{ x with mem := Memory.writeCells [] (Config.freeMem c.site c.ticks c.regs c.mem) }]
  | .test e => fun x =>
    match PlatformExpr.eval c x e with
    | some w => if w = 0#64 then [] else [x]
    | none => []
  | .pick k last => fun x =>
    match PlatformExpr.eval c x last with
    | some w => (List.range (w.toNat + 1)).map fun v => { x with vars := (k, some (BitVec.ofNat 64 v)) :: x.vars }
    | none => []
  | .seq a b => fun x => (HelperRel.outcomes c a x).flatMap (HelperRel.outcomes c b)
  | .either a b => fun x => HelperRel.outcomes c a x ++ HelperRel.outcomes c b x
  | .loop n b => fun x =>
    match PlatformExpr.eval c x n with
    | some k => repeated (fun l => l.flatMap (HelperRel.outcomes c b)) k.toNat [x]
    | none => []

/-- A state the relation relates to: the only one, or the one a free value picks (rule R251: choose). -/
def HelperRel.choose (c : PlatformSite) (h : HelperRel) (x : PlatformState) : Option PlatformState :=
  match HelperRel.outcomes c h x with
  | [] => none
  | [y] => some y
  | y :: z :: more =>
    (y :: z :: more)[Config.freePick c.site c.ticks c.regs c.mem % (y :: z :: more).length]?

/-- A call of the helper with id `imm` in a table of helpers (rules R251, R253). -/
def State.callPlatform (s : State) (site : FreeSite) (table : List (Word32 × HelperRel)) (imm : Word32) : Result :=
  match table.lookup imm with
  | none => s.trap (.platformFault .unknownHelper imm)
  | some h =>
    match HelperRel.choose (s.siteOf site) h s.platformState with
    | none => s.trap (.platformFault .helperFailed imm)
    | some y => .next (({ s with regs := y.regs, mem := y.mem }).advance 1)

/-- An address query of a wide instruction: `x[dst] <- v`, or `PlatformFault` where the platform function is undefined
(rule R330). -/
def State.loadAddress (s : State) (dst : Reg) (imm : Word32) (what : PlatformReason) (v : Option Word) : Result :=
  match v with
  | some v => .next ((s.setReg dst v).advance 2)
  | none => s.trap (.platformFault what imm)

/-! The call stack -/

/-- The registers after a convention has set some of them, each from the registers and memory before (D13; log entry
9). -/
def RegFile.effects (c : PlatformSite) (before : RegFile) (es : List (Reg × PlatformExpr)) : RegFile :=
  es.foldl (fun regs e =>
    regs.set e.1 (PlatformExpr.eval c { regs := before, mem := c.mem, vars := [] } e.2)) before

/-- The call stack is at `MAX_CALL_DEPTH` (rules R252, R407). -/
def State.callStackFull (s : State) : Bool :=
  match s.params.maxCallDepth with
  | some d => decide (s.cs.length ≥ d)
  | none => false

/-- A program-local call: push the return index with what `CALL_ABI` saves, and jump (rules R25, R252). -/
def State.call (s : State) (target : Int) : State :=
  let frame := { ret := s.pc + 1, saved := s.params.callAbi.saved.map fun r => (r, s.regs[r]) }
  ({ s with
    regs := RegFile.effects (s.siteOf .call) s.regs s.params.callAbi.onCall
    cs := frame :: s.cs }).goto target

/-- The return from a program-local function: pop the top frame, restore what it saved, and go back (rules R25, R254). -/
def State.ret (s : State) (frame : Frame) (rest : List Frame) : State :=
  let regs := frame.saved.foldl (fun regs p => regs.set p.1 p.2) s.regs
  ({ s with
    regs := RegFile.effects (s.siteOf .ret) regs s.params.callAbi.onReturn
    cs := rest }).goto frame.ret

/-! The environment -/

/-- Memory after the environment's turn: its writes, then its relation, which sees no register of this program; where
that relates memory to nothing, memory stays (rules R48, R420; log entry 10). -/
def State.environmentMem (s : State) (t : EnvTurn) : Memory :=
  let m := s.mem.writeCells t.before
  match HelperRel.choose (s.siteOf .environment) t.act { regs := Vector.replicate 11 none, mem := m, vars := [] } with
  | some y => y.mem
  | none => m

end Sys2Proof.Machine
end

