-- ==== Sys2Proof/Machine/Imm64.lean ====
section
/-! DEFINITION. The 64-bit immediate instructions and their second slot (46_imm64.md, rules R330 to R338). -/

namespace Sys2Proof.Machine

/-- LDDW, rule R331: `x[dst] <- next_imm : imm; pc <- pc + 2`. -/
def execLddw (dst : Reg) (imm nextImm : Word32) (s : State) : Result :=
  .next ((s.setReg dst (nextImm ++ imm)).advance 2)

/-- LD_MAP_FD, rule R332: `m = MAP_BY_FD(imm); if m undefined then raise PlatformFault(NoMap, imm); x[dst] <- m; pc
<- pc + 2`. -/
def execLdMapFd (dst : Reg) (imm : Word32) (s : State) : Result :=
  s.loadAddress dst imm .noMap (s.params.mapByFd.lookup imm)

/-- LD_MAP_VAL_FD, rule R333: `m = MAP_BY_FD(imm); v = MAP_VAL(m); if m or v undefined then raise
PlatformFault(NoMapValue, imm); x[dst] <- v + sext_64(next_imm); pc <- pc + 2`. -/
def execLdMapValFd (dst : Reg) (imm nextImm : Word32) (s : State) : Result :=
  s.loadAddress dst imm .noMapValue
    (((s.params.mapByFd.lookup imm).bind fun m => s.params.mapVal.lookup m).map (· + sextImm nextImm))

/-- LD_VAR_ADDR, rule R334: `v = VAR_ADDR(imm); if v undefined then raise PlatformFault(NoVariable, imm); x[dst] <-
v; pc <- pc + 2`. -/
def execLdVarAddr (dst : Reg) (imm : Word32) (s : State) : Result :=
  s.loadAddress dst imm .noVariable (s.params.varAddr.lookup imm)

/-- LD_CODE_ADDR, rule R335: `v = CODE_ADDR(pc, sint(imm)); if v undefined then raise PlatformFault(NoCodeAddress,
imm); x[dst] <- v; pc <- pc + 2`. -/
def execLdCodeAddr (dst : Reg) (imm : Word32) (s : State) : Result :=
  s.loadAddress dst imm .noCodeAddress (s.params.codeAddr.lookup (s.pc, imm.toInt))

/-- LD_MAP_IDX, rule R336: `m = MAP_BY_IDX(imm); if m undefined then raise PlatformFault(NoMap, imm); x[dst] <- m;
pc <- pc + 2`. -/
def execLdMapIdx (dst : Reg) (imm : Word32) (s : State) : Result :=
  s.loadAddress dst imm .noMap (s.params.mapByIdx.lookup imm)

/-- LD_MAP_VAL_IDX, rule R337: `m = MAP_BY_IDX(imm); v = MAP_VAL(m); if m or v undefined then raise
PlatformFault(NoMapValue, imm); x[dst] <- v + sext_64(next_imm); pc <- pc + 2`. -/
def execLdMapValIdx (dst : Reg) (imm nextImm : Word32) (s : State) : Result :=
  s.loadAddress dst imm .noMapValue
    (((s.params.mapByIdx.lookup imm).bind fun m => s.params.mapVal.lookup m).map (· + sextImm nextImm))

/-- IMM64_SECOND_SLOT, rule R338. Never executed: at an instruction boundary opcode 0x00 is IllegalInstruction(pc,
Reserved) (log entry 15). -/
def execImm64SecondSlot (_nextImm : Word32) (s : State) : Result := s.trap (.illegalInstruction s.pc .reserved)

end Sys2Proof.Machine
end

