-- ==== Sys2Proof/Machine/Flags.lean ====
section
/-! DEFINITION. The machine has no flags (rule R24): no arithmetic result is recorded anywhere. In their place stand the
conditions of the conditional jumps, on operands of any width (Table J, rule R200). -/

namespace Sys2Proof.Machine

/-- JEQ: `a = b`. -/
def Cond.jeq {n : Nat} (a b : BitVec n) : Bool := a == b

/-- JNE: `a != b`. -/
def Cond.jne {n : Nat} (a b : BitVec n) : Bool := a != b

/-- JSET: `(a AND b) != 0`. -/
def Cond.jset {n : Nat} (a b : BitVec n) : Bool := (a &&& b) != 0#n

/-- JGT: `uint(a) > uint(b)`. -/
def Cond.jgt {n : Nat} (a b : BitVec n) : Bool := decide (a.toNat > b.toNat)

/-- JGE: `uint(a) >= uint(b)`. -/
def Cond.jge {n : Nat} (a b : BitVec n) : Bool := decide (a.toNat ≥ b.toNat)

/-- JLT: `uint(a) < uint(b)`. -/
def Cond.jlt {n : Nat} (a b : BitVec n) : Bool := decide (a.toNat < b.toNat)

/-- JLE: `uint(a) <= uint(b)`. -/
def Cond.jle {n : Nat} (a b : BitVec n) : Bool := decide (a.toNat ≤ b.toNat)

/-- JSGT: `sint(a) > sint(b)`. -/
def Cond.jsgt {n : Nat} (a b : BitVec n) : Bool := decide (a.toInt > b.toInt)

/-- JSGE: `sint(a) >= sint(b)`. -/
def Cond.jsge {n : Nat} (a b : BitVec n) : Bool := decide (a.toInt ≥ b.toInt)

/-- JSLT: `sint(a) < sint(b)`. -/
def Cond.jslt {n : Nat} (a b : BitVec n) : Bool := decide (a.toInt < b.toInt)

/-- JSLE: `sint(a) <= sint(b)`. -/
def Cond.jsle {n : Nat} (a b : BitVec n) : Bool := decide (a.toInt ≤ b.toInt)

end Sys2Proof.Machine
end

