-- ==== Sys2Proof/Machine/Jump.lean ====
section
/-! DEFINITION. The jumps, calls and EXIT (43_jump.md, rules R200 to R254). -/

namespace Sys2Proof.Machine

/-- The end of a conditional jump: the target if the condition holds, else the next slot (rules R200, R201). -/
def State.branch (s : State) (taken : Bool) (offset : BitVec 16) : Result :=
  .next (if taken then s.goto (jumpTarget s.pc offset) else s.advance 1)

/-- A K form of class JMP: `a = x[dst]`, `b = sext_64(imm)` (rule R200). -/
def jump64K (c : Word → Word → Bool) (dst : Reg) (imm : Word32) (offset : BitVec 16) (s : State) : Result :=
  s.withReg dst fun a => s.branch (c a (sextImm imm)) offset

/-- An X form of class JMP: `a = x[dst]`, `b = x[src]`, both read whether or not the jump is taken (rules R200, R204). -/
def jump64X (c : Word → Word → Bool) (dst src : Reg) (offset : BitVec 16) (s : State) : Result :=
  s.withReg dst fun a => s.withReg src fun b => s.branch (c a b) offset

/-- A K form of class JMP32: `a = w[dst]`, `b = imm` as encoded (rule R200). -/
def jump32K (c : Word32 → Word32 → Bool) (dst : Reg) (imm : Word32) (offset : BitVec 16) (s : State) : Result :=
  s.withReg dst fun a => s.branch (c (low32 a) imm) offset

/-- An X form of class JMP32: `a = w[dst]`, `b = w[src]` (rule R200). -/
def jump32X (c : Word32 → Word32 → Bool) (dst src : Reg) (offset : BitVec 16) (s : State) : Result :=
  s.withReg dst fun a => s.withReg src fun b => s.branch (c (low32 a) (low32 b)) offset

/-- JA, rule R205: `pc <- pc + 1 + sint(offset)`. -/
def execJa (offset : BitVec 16) (s : State) : Result := .next (s.goto (jumpTarget s.pc offset))

/-- JA32, rule R206: `pc <- pc + 1 + sint(imm)`. -/
def execJa32 (imm : Word32) (s : State) : Result := .next (s.goto (jumpTarget s.pc imm))

/-- JEQ64_K, rule R207: `a = x[dst]; b = sext_64(imm); if a = b then pc <- pc + 1 + sint(offset) else pc <- pc + 1`.
-/
def execJeq64K (dst : Reg) (imm : Word32) (offset : BitVec 16) (s : State) : Result :=
  jump64K Cond.jeq dst imm offset s

/-- JEQ64_X, rule R208: `a = x[dst]; b = x[src]; if a = b then pc <- pc + 1 + sint(offset) else pc <- pc + 1`. -/
def execJeq64X (dst src : Reg) (offset : BitVec 16) (s : State) : Result := jump64X Cond.jeq dst src offset s

/-- JEQ32_K, rule R209: `a = w[dst]; b = imm; if a = b then pc <- pc + 1 + sint(offset) else pc <- pc + 1`. -/
def execJeq32K (dst : Reg) (imm : Word32) (offset : BitVec 16) (s : State) : Result :=
  jump32K Cond.jeq dst imm offset s

/-- JEQ32_X, rule R210: `a = w[dst]; b = w[src]; if a = b then pc <- pc + 1 + sint(offset) else pc <- pc + 1`. -/
def execJeq32X (dst src : Reg) (offset : BitVec 16) (s : State) : Result := jump32X Cond.jeq dst src offset s

/-- JGT64_K, rule R211: `a = x[dst]; b = sext_64(imm); if uint(a) > uint(b) then pc <- pc + 1 + sint(offset) else pc
<- pc + 1`. -/
def execJgt64K (dst : Reg) (imm : Word32) (offset : BitVec 16) (s : State) : Result :=
  jump64K Cond.jgt dst imm offset s

/-- JGT64_X, rule R212: `a = x[dst]; b = x[src]; if uint(a) > uint(b) then pc <- pc + 1 + sint(offset) else pc <- pc
+ 1`. -/
def execJgt64X (dst src : Reg) (offset : BitVec 16) (s : State) : Result := jump64X Cond.jgt dst src offset s

/-- JGT32_K, rule R213: `a = w[dst]; b = imm; if uint(a) > uint(b) then pc <- pc + 1 + sint(offset) else pc <- pc +
1`. -/
def execJgt32K (dst : Reg) (imm : Word32) (offset : BitVec 16) (s : State) : Result :=
  jump32K Cond.jgt dst imm offset s

/-- JGT32_X, rule R214: `a = w[dst]; b = w[src]; if uint(a) > uint(b) then pc <- pc + 1 + sint(offset) else pc <- pc
+ 1`. -/
def execJgt32X (dst src : Reg) (offset : BitVec 16) (s : State) : Result := jump32X Cond.jgt dst src offset s

/-- JGE64_K, rule R215: `a = x[dst]; b = sext_64(imm); if uint(a) >= uint(b) then pc <- pc + 1 + sint(offset) else
pc <- pc + 1`. -/
def execJge64K (dst : Reg) (imm : Word32) (offset : BitVec 16) (s : State) : Result :=
  jump64K Cond.jge dst imm offset s

/-- JGE64_X, rule R216: `a = x[dst]; b = x[src]; if uint(a) >= uint(b) then pc <- pc + 1 + sint(offset) else pc <-
pc + 1`. -/
def execJge64X (dst src : Reg) (offset : BitVec 16) (s : State) : Result := jump64X Cond.jge dst src offset s

/-- JGE32_K, rule R217: `a = w[dst]; b = imm; if uint(a) >= uint(b) then pc <- pc + 1 + sint(offset) else pc <- pc +
1`. -/
def execJge32K (dst : Reg) (imm : Word32) (offset : BitVec 16) (s : State) : Result :=
  jump32K Cond.jge dst imm offset s

/-- JGE32_X, rule R218: `a = w[dst]; b = w[src]; if uint(a) >= uint(b) then pc <- pc + 1 + sint(offset) else pc <-
pc + 1`. -/
def execJge32X (dst src : Reg) (offset : BitVec 16) (s : State) : Result := jump32X Cond.jge dst src offset s

/-- JSET64_K, rule R219: `a = x[dst]; b = sext_64(imm); if (a AND b) != 0 then pc <- pc + 1 + sint(offset) else pc
<- pc + 1`. -/
def execJset64K (dst : Reg) (imm : Word32) (offset : BitVec 16) (s : State) : Result :=
  jump64K Cond.jset dst imm offset s

/-- JSET64_X, rule R220: `a = x[dst]; b = x[src]; if (a AND b) != 0 then pc <- pc + 1 + sint(offset) else pc <- pc +
1`. -/
def execJset64X (dst src : Reg) (offset : BitVec 16) (s : State) : Result := jump64X Cond.jset dst src offset s

/-- JSET32_K, rule R221: `a = w[dst]; b = imm; if (a AND b) != 0 then pc <- pc + 1 + sint(offset) else pc <- pc +
1`. -/
def execJset32K (dst : Reg) (imm : Word32) (offset : BitVec 16) (s : State) : Result :=
  jump32K Cond.jset dst imm offset s

/-- JSET32_X, rule R222: `a = w[dst]; b = w[src]; if (a AND b) != 0 then pc <- pc + 1 + sint(offset) else pc <- pc +
1`. -/
def execJset32X (dst src : Reg) (offset : BitVec 16) (s : State) : Result := jump32X Cond.jset dst src offset s

/-- JNE64_K, rule R223: `a = x[dst]; b = sext_64(imm); if a != b then pc <- pc + 1 + sint(offset) else pc <- pc +
1`. -/
def execJne64K (dst : Reg) (imm : Word32) (offset : BitVec 16) (s : State) : Result :=
  jump64K Cond.jne dst imm offset s

/-- JNE64_X, rule R224: `a = x[dst]; b = x[src]; if a != b then pc <- pc + 1 + sint(offset) else pc <- pc + 1`. -/
def execJne64X (dst src : Reg) (offset : BitVec 16) (s : State) : Result := jump64X Cond.jne dst src offset s

/-- JNE32_K, rule R225: `a = w[dst]; b = imm; if a != b then pc <- pc + 1 + sint(offset) else pc <- pc + 1`. -/
def execJne32K (dst : Reg) (imm : Word32) (offset : BitVec 16) (s : State) : Result :=
  jump32K Cond.jne dst imm offset s

/-- JNE32_X, rule R226: `a = w[dst]; b = w[src]; if a != b then pc <- pc + 1 + sint(offset) else pc <- pc + 1`. -/
def execJne32X (dst src : Reg) (offset : BitVec 16) (s : State) : Result := jump32X Cond.jne dst src offset s

/-- JSGT64_K, rule R227: `a = x[dst]; b = sext_64(imm); if sint(a) > sint(b) then pc <- pc + 1 + sint(offset) else
pc <- pc + 1`. -/
def execJsgt64K (dst : Reg) (imm : Word32) (offset : BitVec 16) (s : State) : Result :=
  jump64K Cond.jsgt dst imm offset s

/-- JSGT64_X, rule R228: `a = x[dst]; b = x[src]; if sint(a) > sint(b) then pc <- pc + 1 + sint(offset) else pc <-
pc + 1`. -/
def execJsgt64X (dst src : Reg) (offset : BitVec 16) (s : State) : Result := jump64X Cond.jsgt dst src offset s

/-- JSGT32_K, rule R229: `a = w[dst]; b = imm; if sint(a) > sint(b) then pc <- pc + 1 + sint(offset) else pc <- pc +
1`. -/
def execJsgt32K (dst : Reg) (imm : Word32) (offset : BitVec 16) (s : State) : Result :=
  jump32K Cond.jsgt dst imm offset s

/-- JSGT32_X, rule R230: `a = w[dst]; b = w[src]; if sint(a) > sint(b) then pc <- pc + 1 + sint(offset) else pc <-
pc + 1`. -/
def execJsgt32X (dst src : Reg) (offset : BitVec 16) (s : State) : Result := jump32X Cond.jsgt dst src offset s

/-- JSGE64_K, rule R231: `a = x[dst]; b = sext_64(imm); if sint(a) >= sint(b) then pc <- pc + 1 + sint(offset) else
pc <- pc + 1`. -/
def execJsge64K (dst : Reg) (imm : Word32) (offset : BitVec 16) (s : State) : Result :=
  jump64K Cond.jsge dst imm offset s

/-- JSGE64_X, rule R232: `a = x[dst]; b = x[src]; if sint(a) >= sint(b) then pc <- pc + 1 + sint(offset) else pc <-
pc + 1`. -/
def execJsge64X (dst src : Reg) (offset : BitVec 16) (s : State) : Result := jump64X Cond.jsge dst src offset s

/-- JSGE32_K, rule R233: `a = w[dst]; b = imm; if sint(a) >= sint(b) then pc <- pc + 1 + sint(offset) else pc <- pc
+ 1`. -/
def execJsge32K (dst : Reg) (imm : Word32) (offset : BitVec 16) (s : State) : Result :=
  jump32K Cond.jsge dst imm offset s

/-- JSGE32_X, rule R234: `a = w[dst]; b = w[src]; if sint(a) >= sint(b) then pc <- pc + 1 + sint(offset) else pc <-
pc + 1`. -/
def execJsge32X (dst src : Reg) (offset : BitVec 16) (s : State) : Result := jump32X Cond.jsge dst src offset s

/-- JLT64_K, rule R235: `a = x[dst]; b = sext_64(imm); if uint(a) < uint(b) then pc <- pc + 1 + sint(offset) else pc
<- pc + 1`. -/
def execJlt64K (dst : Reg) (imm : Word32) (offset : BitVec 16) (s : State) : Result :=
  jump64K Cond.jlt dst imm offset s

/-- JLT64_X, rule R236: `a = x[dst]; b = x[src]; if uint(a) < uint(b) then pc <- pc + 1 + sint(offset) else pc <- pc
+ 1`. -/
def execJlt64X (dst src : Reg) (offset : BitVec 16) (s : State) : Result := jump64X Cond.jlt dst src offset s

/-- JLT32_K, rule R237: `a = w[dst]; b = imm; if uint(a) < uint(b) then pc <- pc + 1 + sint(offset) else pc <- pc +
1`. -/
def execJlt32K (dst : Reg) (imm : Word32) (offset : BitVec 16) (s : State) : Result :=
  jump32K Cond.jlt dst imm offset s

/-- JLT32_X, rule R238: `a = w[dst]; b = w[src]; if uint(a) < uint(b) then pc <- pc + 1 + sint(offset) else pc <- pc
+ 1`. -/
def execJlt32X (dst src : Reg) (offset : BitVec 16) (s : State) : Result := jump32X Cond.jlt dst src offset s

/-- JLE64_K, rule R239: `a = x[dst]; b = sext_64(imm); if uint(a) <= uint(b) then pc <- pc + 1 + sint(offset) else
pc <- pc + 1`. -/
def execJle64K (dst : Reg) (imm : Word32) (offset : BitVec 16) (s : State) : Result :=
  jump64K Cond.jle dst imm offset s

/-- JLE64_X, rule R240: `a = x[dst]; b = x[src]; if uint(a) <= uint(b) then pc <- pc + 1 + sint(offset) else pc <-
pc + 1`. -/
def execJle64X (dst src : Reg) (offset : BitVec 16) (s : State) : Result := jump64X Cond.jle dst src offset s

/-- JLE32_K, rule R241: `a = w[dst]; b = imm; if uint(a) <= uint(b) then pc <- pc + 1 + sint(offset) else pc <- pc +
1`. -/
def execJle32K (dst : Reg) (imm : Word32) (offset : BitVec 16) (s : State) : Result :=
  jump32K Cond.jle dst imm offset s

/-- JLE32_X, rule R242: `a = w[dst]; b = w[src]; if uint(a) <= uint(b) then pc <- pc + 1 + sint(offset) else pc <-
pc + 1`. -/
def execJle32X (dst src : Reg) (offset : BitVec 16) (s : State) : Result := jump32X Cond.jle dst src offset s

/-- JSLT64_K, rule R243: `a = x[dst]; b = sext_64(imm); if sint(a) < sint(b) then pc <- pc + 1 + sint(offset) else
pc <- pc + 1`. -/
def execJslt64K (dst : Reg) (imm : Word32) (offset : BitVec 16) (s : State) : Result :=
  jump64K Cond.jslt dst imm offset s

/-- JSLT64_X, rule R244: `a = x[dst]; b = x[src]; if sint(a) < sint(b) then pc <- pc + 1 + sint(offset) else pc <-
pc + 1`. -/
def execJslt64X (dst src : Reg) (offset : BitVec 16) (s : State) : Result := jump64X Cond.jslt dst src offset s

/-- JSLT32_K, rule R245: `a = w[dst]; b = imm; if sint(a) < sint(b) then pc <- pc + 1 + sint(offset) else pc <- pc +
1`. -/
def execJslt32K (dst : Reg) (imm : Word32) (offset : BitVec 16) (s : State) : Result :=
  jump32K Cond.jslt dst imm offset s

/-- JSLT32_X, rule R246: `a = w[dst]; b = w[src]; if sint(a) < sint(b) then pc <- pc + 1 + sint(offset) else pc <-
pc + 1`. -/
def execJslt32X (dst src : Reg) (offset : BitVec 16) (s : State) : Result := jump32X Cond.jslt dst src offset s

/-- JSLE64_K, rule R247: `a = x[dst]; b = sext_64(imm); if sint(a) <= sint(b) then pc <- pc + 1 + sint(offset) else
pc <- pc + 1`. -/
def execJsle64K (dst : Reg) (imm : Word32) (offset : BitVec 16) (s : State) : Result :=
  jump64K Cond.jsle dst imm offset s

/-- JSLE64_X, rule R248: `a = x[dst]; b = x[src]; if sint(a) <= sint(b) then pc <- pc + 1 + sint(offset) else pc <-
pc + 1`. -/
def execJsle64X (dst src : Reg) (offset : BitVec 16) (s : State) : Result := jump64X Cond.jsle dst src offset s

/-- JSLE32_K, rule R249: `a = w[dst]; b = imm; if sint(a) <= sint(b) then pc <- pc + 1 + sint(offset) else pc <- pc
+ 1`. -/
def execJsle32K (dst : Reg) (imm : Word32) (offset : BitVec 16) (s : State) : Result :=
  jump32K Cond.jsle dst imm offset s

/-- JSLE32_X, rule R250: `a = w[dst]; b = w[src]; if sint(a) <= sint(b) then pc <- pc + 1 + sint(offset) else pc <-
pc + 1`. -/
def execJsle32X (dst src : Reg) (offset : BitVec 16) (s : State) : Result := jump32X Cond.jsle dst src offset s

/-- CALL_HELPER, rule R251. The helper relation of `HELPERS(imm)` replaces registers and memory; `pc + 1` (log entry
8). -/
def execCallHelper (imm : Word32) (s : State) : Result := s.callPlatform (.helper imm) s.params.helpers imm

/-- CALL_LOCAL, rule R252: `if length(cs) >= MAX_CALL_DEPTH then raise CallDepth(pc); cs <- push(cs, pc + 1); pc <-
pc + 1 + sint(imm)`. -/
def execCallLocal (imm : Word32) (s : State) : Result :=
  if s.callStackFull then s.trap (.callDepth s.pc) else .next (s.call (jumpTarget s.pc imm))

/-- CALL_BTF, rule R253. As rule R251 with `BTF_HELPERS` (log entry 8). -/
def execCallBtf (imm : Word32) (s : State) : Result := s.callPlatform (.btfHelper imm) s.params.btfHelpers imm

/-- EXIT, rule R254: `if cs = [] then status <- Exited else (t, cs') = pop(cs); cs <- cs'; pc <- t`. -/
def execExit (s : State) : Result :=
  match s.cs with
  | [] => .next { s with status := .exited }
  | frame :: rest => .next (s.ret frame rest)

end Sys2Proof.Machine
end

