-- ==== Sys2Proof/Machine/LoadStore.lean ====
section
/-! DEFINITION. The regular and sign-extension loads and the stores (44_load_store.md, rules R270 to R287). -/

namespace Sys2Proof.Machine

/-- A load of `n` bytes at `x[src] + sext_64(offset)`, extended to 64 bits by `ext` (rules R270, R271). -/
def loadReg (n : Nat) (ext : Word → Word) (dst src : Reg) (offset : BitVec 16) (s : State) : Result :=
  s.withReg src fun base =>
    let ea := effectiveAddress base offset
    s.withAccess ea n .read
      (let r := s.memRead ea n
       (s.setMem r.2).retire dst (ext r.1))

/-- A store of the low `8n` bits of `v` at `base + sext_64(offset)` (rule R270). -/
def storeAt (n : Nat) (base : Word) (offset : BitVec 16) (v : Word) (s : State) : Result :=
  let ea := effectiveAddress base offset
  s.withAccess ea n .write (.next ((s.setMem (s.memWrite ea n v)).advance 1))

/-- An immediate store: the low `8n` bits of `sext_64(imm)` (rule R270). -/
def storeImm (n : Nat) (dst : Reg) (offset : BitVec 16) (imm : Word32) (s : State) : Result :=
  s.withReg dst fun base => storeAt n base offset (sextImm imm) s

/-- A register store: the low `8n` bits of `x[src]` (rule R270). -/
def storeReg (n : Nat) (dst src : Reg) (offset : BitVec 16) (s : State) : Result :=
  s.withReg dst fun base => s.withReg src fun v => storeAt n base offset v s

/-- LDXW, rule R273: `ea = x[src] + sext_64(offset); v = MemRead(ea, 4); x[dst] <- zext_64(v); pc <- pc + 1`. -/
def execLdxw (dst src : Reg) (offset : BitVec 16) (s : State) : Result := loadReg 4 id dst src offset s

/-- LDXH, rule R274: `ea = x[src] + sext_64(offset); v = MemRead(ea, 2); x[dst] <- zext_64(v); pc <- pc + 1`. -/
def execLdxh (dst src : Reg) (offset : BitVec 16) (s : State) : Result := loadReg 2 id dst src offset s

/-- LDXB, rule R275: `ea = x[src] + sext_64(offset); v = MemRead(ea, 1); x[dst] <- zext_64(v); pc <- pc + 1`. -/
def execLdxb (dst src : Reg) (offset : BitVec 16) (s : State) : Result := loadReg 1 id dst src offset s

/-- LDXDW, rule R276: `ea = x[src] + sext_64(offset); v = MemRead(ea, 8); x[dst] <- v; pc <- pc + 1`. -/
def execLdxdw (dst src : Reg) (offset : BitVec 16) (s : State) : Result := loadReg 8 id dst src offset s

/-- STW, rule R277: `ea = x[dst] + sext_64(offset); MemWrite(ea, 4, imm[31:0]); pc <- pc + 1`. -/
def execStw (dst : Reg) (offset : BitVec 16) (imm : Word32) (s : State) : Result := storeImm 4 dst offset imm s

/-- STH, rule R278: `ea = x[dst] + sext_64(offset); MemWrite(ea, 2, imm[15:0]); pc <- pc + 1`. -/
def execSth (dst : Reg) (offset : BitVec 16) (imm : Word32) (s : State) : Result := storeImm 2 dst offset imm s

/-- STB, rule R279: `ea = x[dst] + sext_64(offset); MemWrite(ea, 1, imm[7:0]); pc <- pc + 1`. -/
def execStb (dst : Reg) (offset : BitVec 16) (imm : Word32) (s : State) : Result := storeImm 1 dst offset imm s

/-- STDW, rule R280: `ea = x[dst] + sext_64(offset); MemWrite(ea, 8, sext_64(imm)); pc <- pc + 1`. -/
def execStdw (dst : Reg) (offset : BitVec 16) (imm : Word32) (s : State) : Result := storeImm 8 dst offset imm s

/-- STXW, rule R281: `ea = x[dst] + sext_64(offset); MemWrite(ea, 4, x[src][31:0]); pc <- pc + 1`. -/
def execStxw (dst src : Reg) (offset : BitVec 16) (s : State) : Result := storeReg 4 dst src offset s

/-- STXH, rule R282: `ea = x[dst] + sext_64(offset); MemWrite(ea, 2, x[src][15:0]); pc <- pc + 1`. -/
def execStxh (dst src : Reg) (offset : BitVec 16) (s : State) : Result := storeReg 2 dst src offset s

/-- STXB, rule R283: `ea = x[dst] + sext_64(offset); MemWrite(ea, 1, x[src][7:0]); pc <- pc + 1`. -/
def execStxb (dst src : Reg) (offset : BitVec 16) (s : State) : Result := storeReg 1 dst src offset s

/-- STXDW, rule R284: `ea = x[dst] + sext_64(offset); MemWrite(ea, 8, x[src]); pc <- pc + 1`. -/
def execStxdw (dst src : Reg) (offset : BitVec 16) (s : State) : Result := storeReg 8 dst src offset s

/-- LDXSW, rule R285: `ea = x[src] + sext_64(offset); v = MemRead(ea, 4); x[dst] <- sext_64(v); pc <- pc + 1`. -/
def execLdxsw (dst src : Reg) (offset : BitVec 16) (s : State) : Result := loadReg 4 (sextLow 32) dst src offset s

/-- LDXSH, rule R286: `ea = x[src] + sext_64(offset); v = MemRead(ea, 2); x[dst] <- sext_64(v); pc <- pc + 1`. -/
def execLdxsh (dst src : Reg) (offset : BitVec 16) (s : State) : Result := loadReg 2 (sextLow 16) dst src offset s

/-- LDXSB, rule R287: `ea = x[src] + sext_64(offset); v = MemRead(ea, 1); x[dst] <- sext_64(v); pc <- pc + 1`. -/
def execLdxsb (dst src : Reg) (offset : BitVec 16) (s : State) : Result := loadReg 1 (sextLow 8) dst src offset s

end Sys2Proof.Machine
end

