-- ==== Sys2Proof/Machine/Packet.lean ====
section
/-! DEFINITION. The legacy packet loads: an encoding and no semantics (47_packet.md, rules R350 to R356). -/

namespace Sys2Proof.Machine

/-- Every legacy packet load ends in `UnsupportedGroup(pc, packet)`: `GROUPS` never contains `packet` (rule R350). -/
def packetLoad (s : State) : Result := s.trap (.unsupportedGroup s.pc .packet)

/-- LDABSW, rule R351: no semantics in the source; `UnsupportedGroup(pc, packet)`. -/
def execLdabsw (_imm : Word32) (s : State) : Result := packetLoad s

/-- LDABSH, rule R352: no semantics in the source; `UnsupportedGroup(pc, packet)`. -/
def execLdabsh (_imm : Word32) (s : State) : Result := packetLoad s

/-- LDABSB, rule R353: no semantics in the source; `UnsupportedGroup(pc, packet)`. -/
def execLdabsb (_imm : Word32) (s : State) : Result := packetLoad s

/-- LDINDW, rule R354: no semantics in the source; `UnsupportedGroup(pc, packet)`. -/
def execLdindw (_src : Reg) (_imm : Word32) (s : State) : Result := packetLoad s

/-- LDINDH, rule R355: no semantics in the source; `UnsupportedGroup(pc, packet)`. -/
def execLdindh (_src : Reg) (_imm : Word32) (s : State) : Result := packetLoad s

/-- LDINDB, rule R356: no semantics in the source; `UnsupportedGroup(pc, packet)`. -/
def execLdindb (_src : Reg) (_imm : Word32) (s : State) : Result := packetLoad s

end Sys2Proof.Machine
end

