-- ==== Sys2Proof/Machine/Dispatch.lean ====
section
/-! DEFINITION. The meaning of every instruction: one arm per constructor of Instr, each one call. -/

namespace Sys2Proof.Machine

def exec (i : Instr) (s : State) : Host.Outcome State Fault Refusal :=
  match i with
  | .add32K dst imm => Sys2Proof.Machine.execAdd32K dst imm s
  | .add32X dst src => Sys2Proof.Machine.execAdd32X dst src s
  | .sub32K dst imm => Sys2Proof.Machine.execSub32K dst imm s
  | .sub32X dst src => Sys2Proof.Machine.execSub32X dst src s
  | .mul32K dst imm => Sys2Proof.Machine.execMul32K dst imm s
  | .mul32X dst src => Sys2Proof.Machine.execMul32X dst src s
  | .div32K dst imm => Sys2Proof.Machine.execDiv32K dst imm s
  | .div32X dst src => Sys2Proof.Machine.execDiv32X dst src s
  | .sdiv32K dst imm => Sys2Proof.Machine.execSdiv32K dst imm s
  | .sdiv32X dst src => Sys2Proof.Machine.execSdiv32X dst src s
  | .or32K dst imm => Sys2Proof.Machine.execOr32K dst imm s
  | .or32X dst src => Sys2Proof.Machine.execOr32X dst src s
  | .and32K dst imm => Sys2Proof.Machine.execAnd32K dst imm s
  | .and32X dst src => Sys2Proof.Machine.execAnd32X dst src s
  | .lsh32K dst imm => Sys2Proof.Machine.execLsh32K dst imm s
  | .lsh32X dst src => Sys2Proof.Machine.execLsh32X dst src s
  | .rsh32K dst imm => Sys2Proof.Machine.execRsh32K dst imm s
  | .rsh32X dst src => Sys2Proof.Machine.execRsh32X dst src s
  | .neg32 dst => Sys2Proof.Machine.execNeg32 dst s
  | .mod32K dst imm => Sys2Proof.Machine.execMod32K dst imm s
  | .mod32X dst src => Sys2Proof.Machine.execMod32X dst src s
  | .smod32K dst imm => Sys2Proof.Machine.execSmod32K dst imm s
  | .smod32X dst src => Sys2Proof.Machine.execSmod32X dst src s
  | .xor32K dst imm => Sys2Proof.Machine.execXor32K dst imm s
  | .xor32X dst src => Sys2Proof.Machine.execXor32X dst src s
  | .mov32K dst imm => Sys2Proof.Machine.execMov32K dst imm s
  | .mov32X dst src => Sys2Proof.Machine.execMov32X dst src s
  | .movsx32_8 dst src => Sys2Proof.Machine.execMovsx32_8 dst src s
  | .movsx32_16 dst src => Sys2Proof.Machine.execMovsx32_16 dst src s
  | .arsh32K dst imm => Sys2Proof.Machine.execArsh32K dst imm s
  | .arsh32X dst src => Sys2Proof.Machine.execArsh32X dst src s
  | .add64K dst imm => Sys2Proof.Machine.execAdd64K dst imm s
  | .add64X dst src => Sys2Proof.Machine.execAdd64X dst src s
  | .sub64K dst imm => Sys2Proof.Machine.execSub64K dst imm s
  | .sub64X dst src => Sys2Proof.Machine.execSub64X dst src s
  | .mul64K dst imm => Sys2Proof.Machine.execMul64K dst imm s
  | .mul64X dst src => Sys2Proof.Machine.execMul64X dst src s
  | .div64K dst imm => Sys2Proof.Machine.execDiv64K dst imm s
  | .div64X dst src => Sys2Proof.Machine.execDiv64X dst src s
  | .sdiv64K dst imm => Sys2Proof.Machine.execSdiv64K dst imm s
  | .sdiv64X dst src => Sys2Proof.Machine.execSdiv64X dst src s
  | .or64K dst imm => Sys2Proof.Machine.execOr64K dst imm s
  | .or64X dst src => Sys2Proof.Machine.execOr64X dst src s
  | .and64K dst imm => Sys2Proof.Machine.execAnd64K dst imm s
  | .and64X dst src => Sys2Proof.Machine.execAnd64X dst src s
  | .lsh64K dst imm => Sys2Proof.Machine.execLsh64K dst imm s
  | .lsh64X dst src => Sys2Proof.Machine.execLsh64X dst src s
  | .rsh64K dst imm => Sys2Proof.Machine.execRsh64K dst imm s
  | .rsh64X dst src => Sys2Proof.Machine.execRsh64X dst src s
  | .neg64 dst => Sys2Proof.Machine.execNeg64 dst s
  | .mod64K dst imm => Sys2Proof.Machine.execMod64K dst imm s
  | .mod64X dst src => Sys2Proof.Machine.execMod64X dst src s
  | .smod64K dst imm => Sys2Proof.Machine.execSmod64K dst imm s
  | .smod64X dst src => Sys2Proof.Machine.execSmod64X dst src s
  | .xor64K dst imm => Sys2Proof.Machine.execXor64K dst imm s
  | .xor64X dst src => Sys2Proof.Machine.execXor64X dst src s
  | .mov64K dst imm => Sys2Proof.Machine.execMov64K dst imm s
  | .mov64X dst src => Sys2Proof.Machine.execMov64X dst src s
  | .movsx64_8 dst src => Sys2Proof.Machine.execMovsx64_8 dst src s
  | .movsx64_16 dst src => Sys2Proof.Machine.execMovsx64_16 dst src s
  | .movsx64_32 dst src => Sys2Proof.Machine.execMovsx64_32 dst src s
  | .arsh64K dst imm => Sys2Proof.Machine.execArsh64K dst imm s
  | .arsh64X dst src => Sys2Proof.Machine.execArsh64X dst src s
  | .le16 dst => Sys2Proof.Machine.execLe16 dst s
  | .le32 dst => Sys2Proof.Machine.execLe32 dst s
  | .le64 dst => Sys2Proof.Machine.execLe64 dst s
  | .be16 dst => Sys2Proof.Machine.execBe16 dst s
  | .be32 dst => Sys2Proof.Machine.execBe32 dst s
  | .be64 dst => Sys2Proof.Machine.execBe64 dst s
  | .bswap16 dst => Sys2Proof.Machine.execBswap16 dst s
  | .bswap32 dst => Sys2Proof.Machine.execBswap32 dst s
  | .bswap64 dst => Sys2Proof.Machine.execBswap64 dst s
  | .ja offset => Sys2Proof.Machine.execJa offset s
  | .ja32 imm => Sys2Proof.Machine.execJa32 imm s
  | .jeq64K dst imm offset => Sys2Proof.Machine.execJeq64K dst imm offset s
  | .jeq64X dst src offset => Sys2Proof.Machine.execJeq64X dst src offset s
  | .jeq32K dst imm offset => Sys2Proof.Machine.execJeq32K dst imm offset s
  | .jeq32X dst src offset => Sys2Proof.Machine.execJeq32X dst src offset s
  | .jgt64K dst imm offset => Sys2Proof.Machine.execJgt64K dst imm offset s
  | .jgt64X dst src offset => Sys2Proof.Machine.execJgt64X dst src offset s
  | .jgt32K dst imm offset => Sys2Proof.Machine.execJgt32K dst imm offset s
  | .jgt32X dst src offset => Sys2Proof.Machine.execJgt32X dst src offset s
  | .jge64K dst imm offset => Sys2Proof.Machine.execJge64K dst imm offset s
  | .jge64X dst src offset => Sys2Proof.Machine.execJge64X dst src offset s
  | .jge32K dst imm offset => Sys2Proof.Machine.execJge32K dst imm offset s
  | .jge32X dst src offset => Sys2Proof.Machine.execJge32X dst src offset s
  | .jset64K dst imm offset => Sys2Proof.Machine.execJset64K dst imm offset s
  | .jset64X dst src offset => Sys2Proof.Machine.execJset64X dst src offset s
  | .jset32K dst imm offset => Sys2Proof.Machine.execJset32K dst imm offset s
  | .jset32X dst src offset => Sys2Proof.Machine.execJset32X dst src offset s
  | .jne64K dst imm offset => Sys2Proof.Machine.execJne64K dst imm offset s
  | .jne64X dst src offset => Sys2Proof.Machine.execJne64X dst src offset s
  | .jne32K dst imm offset => Sys2Proof.Machine.execJne32K dst imm offset s
  | .jne32X dst src offset => Sys2Proof.Machine.execJne32X dst src offset s
  | .jsgt64K dst imm offset => Sys2Proof.Machine.execJsgt64K dst imm offset s
  | .jsgt64X dst src offset => Sys2Proof.Machine.execJsgt64X dst src offset s
  | .jsgt32K dst imm offset => Sys2Proof.Machine.execJsgt32K dst imm offset s
  | .jsgt32X dst src offset => Sys2Proof.Machine.execJsgt32X dst src offset s
  | .jsge64K dst imm offset => Sys2Proof.Machine.execJsge64K dst imm offset s
  | .jsge64X dst src offset => Sys2Proof.Machine.execJsge64X dst src offset s
  | .jsge32K dst imm offset => Sys2Proof.Machine.execJsge32K dst imm offset s
  | .jsge32X dst src offset => Sys2Proof.Machine.execJsge32X dst src offset s
  | .jlt64K dst imm offset => Sys2Proof.Machine.execJlt64K dst imm offset s
  | .jlt64X dst src offset => Sys2Proof.Machine.execJlt64X dst src offset s
  | .jlt32K dst imm offset => Sys2Proof.Machine.execJlt32K dst imm offset s
  | .jlt32X dst src offset => Sys2Proof.Machine.execJlt32X dst src offset s
  | .jle64K dst imm offset => Sys2Proof.Machine.execJle64K dst imm offset s
  | .jle64X dst src offset => Sys2Proof.Machine.execJle64X dst src offset s
  | .jle32K dst imm offset => Sys2Proof.Machine.execJle32K dst imm offset s
  | .jle32X dst src offset => Sys2Proof.Machine.execJle32X dst src offset s
  | .jslt64K dst imm offset => Sys2Proof.Machine.execJslt64K dst imm offset s
  | .jslt64X dst src offset => Sys2Proof.Machine.execJslt64X dst src offset s
  | .jslt32K dst imm offset => Sys2Proof.Machine.execJslt32K dst imm offset s
  | .jslt32X dst src offset => Sys2Proof.Machine.execJslt32X dst src offset s
  | .jsle64K dst imm offset => Sys2Proof.Machine.execJsle64K dst imm offset s
  | .jsle64X dst src offset => Sys2Proof.Machine.execJsle64X dst src offset s
  | .jsle32K dst imm offset => Sys2Proof.Machine.execJsle32K dst imm offset s
  | .jsle32X dst src offset => Sys2Proof.Machine.execJsle32X dst src offset s
  | .callHelper imm => Sys2Proof.Machine.execCallHelper imm s
  | .callLocal imm => Sys2Proof.Machine.execCallLocal imm s
  | .callBtf imm => Sys2Proof.Machine.execCallBtf imm s
  | .exit => Sys2Proof.Machine.execExit s
  | .ldxw dst src offset => Sys2Proof.Machine.execLdxw dst src offset s
  | .ldxh dst src offset => Sys2Proof.Machine.execLdxh dst src offset s
  | .ldxb dst src offset => Sys2Proof.Machine.execLdxb dst src offset s
  | .ldxdw dst src offset => Sys2Proof.Machine.execLdxdw dst src offset s
  | .stw dst offset imm => Sys2Proof.Machine.execStw dst offset imm s
  | .sth dst offset imm => Sys2Proof.Machine.execSth dst offset imm s
  | .stb dst offset imm => Sys2Proof.Machine.execStb dst offset imm s
  | .stdw dst offset imm => Sys2Proof.Machine.execStdw dst offset imm s
  | .stxw dst src offset => Sys2Proof.Machine.execStxw dst src offset s
  | .stxh dst src offset => Sys2Proof.Machine.execStxh dst src offset s
  | .stxb dst src offset => Sys2Proof.Machine.execStxb dst src offset s
  | .stxdw dst src offset => Sys2Proof.Machine.execStxdw dst src offset s
  | .ldxsw dst src offset => Sys2Proof.Machine.execLdxsw dst src offset s
  | .ldxsh dst src offset => Sys2Proof.Machine.execLdxsh dst src offset s
  | .ldxsb dst src offset => Sys2Proof.Machine.execLdxsb dst src offset s
  | .atomicAdd32 dst src offset => Sys2Proof.Machine.execAtomicAdd32 dst src offset s
  | .atomicOr32 dst src offset => Sys2Proof.Machine.execAtomicOr32 dst src offset s
  | .atomicAnd32 dst src offset => Sys2Proof.Machine.execAtomicAnd32 dst src offset s
  | .atomicXor32 dst src offset => Sys2Proof.Machine.execAtomicXor32 dst src offset s
  | .atomicFetchAdd32 dst src offset => Sys2Proof.Machine.execAtomicFetchAdd32 dst src offset s
  | .atomicFetchOr32 dst src offset => Sys2Proof.Machine.execAtomicFetchOr32 dst src offset s
  | .atomicFetchAnd32 dst src offset => Sys2Proof.Machine.execAtomicFetchAnd32 dst src offset s
  | .atomicFetchXor32 dst src offset => Sys2Proof.Machine.execAtomicFetchXor32 dst src offset s
  | .atomicXchg32 dst src offset => Sys2Proof.Machine.execAtomicXchg32 dst src offset s
  | .atomicCmpxchg32 dst src offset => Sys2Proof.Machine.execAtomicCmpxchg32 dst src offset s
  | .atomicAdd64 dst src offset => Sys2Proof.Machine.execAtomicAdd64 dst src offset s
  | .atomicOr64 dst src offset => Sys2Proof.Machine.execAtomicOr64 dst src offset s
  | .atomicAnd64 dst src offset => Sys2Proof.Machine.execAtomicAnd64 dst src offset s
  | .atomicXor64 dst src offset => Sys2Proof.Machine.execAtomicXor64 dst src offset s
  | .atomicFetchAdd64 dst src offset => Sys2Proof.Machine.execAtomicFetchAdd64 dst src offset s
  | .atomicFetchOr64 dst src offset => Sys2Proof.Machine.execAtomicFetchOr64 dst src offset s
  | .atomicFetchAnd64 dst src offset => Sys2Proof.Machine.execAtomicFetchAnd64 dst src offset s
  | .atomicFetchXor64 dst src offset => Sys2Proof.Machine.execAtomicFetchXor64 dst src offset s
  | .atomicXchg64 dst src offset => Sys2Proof.Machine.execAtomicXchg64 dst src offset s
  | .atomicCmpxchg64 dst src offset => Sys2Proof.Machine.execAtomicCmpxchg64 dst src offset s
  | .lddw dst imm nextImm => Sys2Proof.Machine.execLddw dst imm nextImm s
  | .ldMapFd dst imm => Sys2Proof.Machine.execLdMapFd dst imm s
  | .ldMapValFd dst imm nextImm => Sys2Proof.Machine.execLdMapValFd dst imm nextImm s
  | .ldVarAddr dst imm => Sys2Proof.Machine.execLdVarAddr dst imm s
  | .ldCodeAddr dst imm => Sys2Proof.Machine.execLdCodeAddr dst imm s
  | .ldMapIdx dst imm => Sys2Proof.Machine.execLdMapIdx dst imm s
  | .ldMapValIdx dst imm nextImm => Sys2Proof.Machine.execLdMapValIdx dst imm nextImm s
  | .imm64SecondSlot nextImm => Sys2Proof.Machine.execImm64SecondSlot nextImm s
  | .ldabsw imm => Sys2Proof.Machine.execLdabsw imm s
  | .ldabsh imm => Sys2Proof.Machine.execLdabsh imm s
  | .ldabsb imm => Sys2Proof.Machine.execLdabsb imm s
  | .ldindw src imm => Sys2Proof.Machine.execLdindw src imm s
  | .ldindh src imm => Sys2Proof.Machine.execLdindh src imm s
  | .ldindb src imm => Sys2Proof.Machine.execLdindb src imm s

end Sys2Proof.Machine
end

