-- ==== Sys2Proof/Machine/Fetch.lean ====
section
/-! DEFINITION. Fetch and decode at the program counter (rules R73, R74, R404), the admission of a configuration (rules
R7, R350), the environment's turn (rule R420) and the placing of an instruction where it is fetched. -/

namespace Sys2Proof.Machine

/-- Whether slot `t` is an instruction boundary of a program: the linear sweep of rule R74. -/
def boundary : List Slot → Nat → Bool
  | [], _ => false
  | _ :: _, 0 => true
  | s :: rest, t + 1 =>
    if s.b0 = 0x18#8 then
      match rest, t with
      | [], _ => false
      | _ :: _, 0 => false
      | _ :: rest', t' + 1 => boundary rest' t'
    else boundary rest t

/-- Whether `pc` indexes an instruction of the program: step 1 of rule R73. -/
def Params.fetchable (p : Params) (pc : Int) : Bool := decide (0 ≤ pc) && boundary p.program pc.toNat

/-- Steps 1 to 6 of rule R73: the instruction at `pc`, or the fault that fetch or decode raises. -/
def State.fetch (s : State) : Except Trap Instr :=
  if Params.fetchable s.params s.pc then
    match decodeProgram s.params.hostEndian (s.params.program.drop s.pc.toNat) with
    | .error reason => .error (.illegalInstruction s.pc reason)
    | .ok i => if i.group ∈ s.params.groups then .ok i else .error (.unsupportedGroup s.pc i.group)
  else .error (.badPc s.pc)

/-- `GROUPS` is admissible: it contains `base32`, is closed under the include relation, and does not contain `packet`
(rules R2, R7, R350). -/
def admissible (groups : List Group) : Bool :=
  decide (.base32 ∈ groups) && decide (.packet ∉ groups)
    && (decide (.atomic64 ∉ groups) || decide (.atomic32 ∈ groups))
    && (decide (.divmul64 ∉ groups) || decide (.divmul32 ∈ groups))

/-- Step 1 of rule R420: the environment acts on `mem`. -/
def State.environmentActs (s : State) : State :=
  match s.turn with
  | some t => s.setMem (s.environmentMem t)
  | none => s

/-- A program with two slots stored at slot `t` and the one after. -/
def placeSlots (program : List Slot) (t : Nat) (a b : Slot) : List Slot :=
  program.take t ++ a :: b :: program.drop (t + 2)

/-- The machine with an instruction stored where it is fetched next. At a boundary of the program, or just past its last
instruction, the slots at `pc` are replaced; elsewhere the program becomes the instruction, with `pc` 0. The run is
made Running, with the groups of the reset state if its own are not admissible (log entry 5). -/
def State.placeInstr (s : State) (a b : Slot) : State :=
  let groups := if admissible s.params.groups then s.params.groups else Params.default.groups
  let t := s.pc.toNat
  let here := decide (0 ≤ s.pc) && decide (t ≤ s.params.program.length)
    && boundary (placeSlots s.params.program t a b) t
  if here then
    { s with
      status := .running
      params := { s.params with groups := groups, program := placeSlots s.params.program t a b } }
  else
    { s with
      status := .running
      pc := 0
      params := { s.params with groups := groups, program := [a, b] } }

end Sys2Proof.Machine
end

