-- ==== Sys2Proof/Machine/Step.lean ====
section
/-! DEFINITION. One step of the machine (rule R420), and the placing of an instruction for the host. -/

namespace Sys2Proof.Machine

/-- Steps 2 to 4 of rule R420: decode the instruction at `pc` and execute it; a fault of decode is taken as any fault. -/
def State.runInstr (s : State) : Result :=
  match s.fetch with
  | .ok i => exec i s
  | .error t => s.trap t

/-- One step (rule R420). From a status that is not Running no step is defined (rule R30, log entry 6); a configuration
whose `GROUPS` is not admissible is refused (rules R7, R350, log entry 13). -/
def step (s : State) : Host.Outcome State Fault Refusal :=
  match s.status with
  | .running =>
    if admissible s.params.groups then s.environmentActs.runInstr else .refused .inadmissibleConfiguration
  | status => .fault (.halted status)

/-- The state with the instruction of `nbits` bits and normalised word `w` stored where the next step fetches it
(log entry 5). -/
def State.withFetchWord (s : State) (nbits w : Nat) : State :=
  let v := BitVec.ofNat 128 (w % 2 ^ nbits)
  s.placeInstr ((Fields.ofWord (v.extractLsb' 0 64)).toSlot s.params.hostEndian)
    ((Fields.ofWord (v.extractLsb' 64 64)).toSlot s.params.hostEndian)

end Sys2Proof.Machine
end

