-- ==== Sys2Proof/Safety.lean ====
section
/-! DEFINITION. What a safe run is, and the invariant of the machine, in the terms the statements use. -/

namespace Sys2Proof.Machine

/-- A state that has not faulted: what a verified program never leaves (rules R400, R423). -/
def State.safe (s : State) : Prop := ∀ t, s.status ≠ .faulted t

/-- A slot index a return may go to: an instruction of the program, or the index just past its last slot (rule R254). -/
def Params.returnable (p : Params) (t : Int) : Prop := Params.fetchable p t = true ∨ t = p.program.length

/-- The invariant of the machine: memory is in canonical form; the call stack is within `MAX_CALL_DEPTH` (rule R407);
every frame returns to an instruction boundary or just past the end (rules R74, R252, R254) and holds the registers
`CALL_ABI` saves (rule R25). -/
structure State.Inv (s : State) : Prop where
  memory : s.mem.wf
  depth  : ∀ d, s.params.maxCallDepth = some d → s.cs.length ≤ d
  frames : ∀ f ∈ s.cs, Params.returnable s.params f.ret
  saved  : ∀ f ∈ s.cs, f.saved.map (·.1) = s.params.callAbi.saved

end Sys2Proof.Machine
end

