-- ==== Sys2Proof/Certificates/Slice0/Obligations.lean ====
section
/-! DEFINITION. The statements for the provers. Each docstring names the rules of spec/ it formalises; where a clause is
the model's own choice it names the log entry. The vocabulary comes first, in the spec's terms: mathematical integers
for arithmetic, bytes for memory, and the next state written out field by field. -/

namespace Sys2Proof.Spec

open Sys2Proof.Machine

/-- The state after a fault: `status <- Faulted(F, info)`, everything else as it was (rule R400). -/
def Faulted (s : State) (t : Trap) : State := { s with status := .faulted t }

/-- The state after an instruction of `slots` slots that writes one register: nothing else changes. -/
def Wrote (s : State) (dst : Reg) (v : Word) (slots : Int) : State :=
  { s with regs := s.regs.set dst (some v), pc := s.pc + slots, ticks := s.ticks + 1 }

/-- The state after an instruction that changes the pc alone. -/
def Jumped (s : State) (t : Int) : State := { s with pc := t, ticks := s.ticks + 1 }

/-- The state after an instruction of one slot that changes memory alone. -/
def Stored (s : State) (m : Memory) : State := { s with mem := m, pc := s.pc + 1, ticks := s.ticks + 1 }

/-- The one-slot encoding of an instruction and its group (rules R62, R64, R73): these fields and no others decode to
it, and at a boundary of a program they are fetched as it, or raise `UnsupportedGroup` where its group is missing. -/
def Encoded (i : Instr) (f : Fields) (g : Group) : Prop :=
  (∀ h next, decodeFields h next = .ok i ↔ h = f) ∧ i.group = g ∧
    ∀ (s : State) rest, Params.fetchable s.params s.pc = true →
      s.params.program.drop s.pc.toNat = f.toSlot s.params.hostEndian :: rest →
        s.fetch = if g ∈ s.params.groups then .ok i else .error (.unsupportedGroup s.pc g)

/-- The two-slot encoding of an instruction and its group (rules R62, R65, R73). -/
def EncodedWide (i : Instr) (f : Fields) (nextImm : Word32) (g : Group) : Prop :=
  (∀ h next, decodeFields h next = .ok i ↔ h = f ∧ next = some ⟨0, 0, 0, 0, nextImm⟩) ∧ i.group = g ∧
    ∀ (s : State) rest, Params.fetchable s.params s.pc = true →
      s.params.program.drop s.pc.toNat
          = f.toSlot s.params.hostEndian :: Fields.toSlot s.params.hostEndian ⟨0, 0, 0, 0, nextImm⟩ :: rest →
        s.fetch = if g ∈ s.params.groups then .ok i else .error (.unsupportedGroup s.pc g)

/-! Arithmetic. `w` is the operand width, 32 or 64; `R a b r` says what the rule says of the result `r`. -/

/-- A K form that reads `dst` (rules R100, R140): `b` is `imm`, sign extended to 64 bits in class ALU64. -/
def ArithK (w : Nat) (mk : Reg → Word32 → Instr) (op : BitVec 8) (off : BitVec 16) (g : Group)
    (R : BitVec w → BitVec w → BitVec w → Prop) : Prop :=
  ∀ dst imm, Encoded (mk dst imm) ⟨op, regBits dst, 0, off, imm⟩ g ∧ ∀ s : State,
    (∀ a, s.regs[dst] = some a → ∃ r, R (a.setWidth w) (imm.signExtend w) r ∧
      exec (mk dst imm) s = .next (Wrote s dst (r.setWidth 64) 1)) ∧
    (s.regs[dst] = none → exec (mk dst imm) s = .next (Faulted s (.unwrittenRegister dst)))

/-- An X form that reads `dst` and `src`, `dst` first (rules R100, R140, R408). -/
def ArithX (w : Nat) (mk : Reg → Reg → Instr) (op : BitVec 8) (off : BitVec 16) (g : Group)
    (R : BitVec w → BitVec w → BitVec w → Prop) : Prop :=
  ∀ dst src, Encoded (mk dst src) ⟨op, regBits dst, regBits src, off, 0⟩ g ∧ ∀ s : State,
    (∀ a b, s.regs[dst] = some a → s.regs[src] = some b → ∃ r, R (a.setWidth w) (b.setWidth w) r ∧
      exec (mk dst src) s = .next (Wrote s dst (r.setWidth 64) 1)) ∧
    (s.regs[dst] = none → exec (mk dst src) s = .next (Faulted s (.unwrittenRegister dst))) ∧
    (s.regs[dst] ≠ none → s.regs[src] = none →
      exec (mk dst src) s = .next (Faulted s (.unwrittenRegister src)))

/-- A K form that writes `dst` without reading it. -/
def MoveK (w : Nat) (mk : Reg → Word32 → Instr) (op : BitVec 8) (g : Group) (R : BitVec w → BitVec w → Prop) : Prop :=
  ∀ dst imm, Encoded (mk dst imm) ⟨op, regBits dst, 0, 0, imm⟩ g ∧ ∀ s : State,
    ∃ r, R (imm.signExtend w) r ∧ exec (mk dst imm) s = .next (Wrote s dst (r.setWidth 64) 1)

/-- An X form that reads `src` alone and writes `dst`. -/
def MoveX (w : Nat) (mk : Reg → Reg → Instr) (op : BitVec 8) (off : BitVec 16) (g : Group)
    (R : BitVec w → BitVec w → Prop) : Prop :=
  ∀ dst src, Encoded (mk dst src) ⟨op, regBits dst, regBits src, off, 0⟩ g ∧ ∀ s : State,
    (∀ b, s.regs[src] = some b → ∃ r, R (b.setWidth w) r ∧
      exec (mk dst src) s = .next (Wrote s dst (r.setWidth 64) 1)) ∧
    (s.regs[src] = none → exec (mk dst src) s = .next (Faulted s (.unwrittenRegister src)))

/-- A form that reads and writes `dst` alone, with `imm` fixed; `w` is the width of the operand. -/
def Unary (w : Nat) (mk : Reg → Instr) (op : BitVec 8) (imm : Word32) (g : Group)
    (R : Endian → BitVec w → BitVec w → Prop) : Prop :=
  ∀ dst, Encoded (mk dst) ⟨op, regBits dst, 0, 0, imm⟩ g ∧ ∀ s : State,
    (∀ a, s.regs[dst] = some a → ∃ r, R s.params.hostEndian (a.setWidth w) r ∧
      exec (mk dst) s = .next (Wrote s dst (r.setWidth 64) 1)) ∧
    (s.regs[dst] = none → exec (mk dst) s = .next (Faulted s (.unwrittenRegister dst)))

/-- The bytes of `r` are those of `v` in reverse order (rule R13). -/
def Reversed {n : Nat} (v r : BitVec n) : Prop :=
  ∀ k, 8 * k < n → r.extractLsb' (8 * k) 8 = v.extractLsb' (n - 8 * (k + 1)) 8

/-! Jumps -/

/-- `GROUPS` is admissible (rules R2, R7, R350). -/
abbrev AdmissibleGroups (gs : List Group) : Prop :=
  .base32 ∈ gs ∧ .packet ∉ gs ∧ (.atomic64 ∈ gs → .atomic32 ∈ gs) ∧ (.divmul64 ∈ gs → .divmul32 ∈ gs)

/-- The state a step decodes and executes from: the environment has acted on memory (rule R420 step 1, log entry 10). -/
def AfterEnvironment (s : State) : State :=
  { s with
    mem := match s.turn with
      | some t => s.environmentMem t
      | none => s.mem }

/-- A jump does not check its target: where it is bad, the next step raises `BadPc` at the fetch (rules R201, R404). -/
def BadTargetFaults (i : Instr) : Prop :=
  ∀ s t : State, exec i s = .next t → t.status = .running → AdmissibleGroups t.params.groups →
    Params.fetchable t.params t.pc = false → step t = .next (Faulted (AfterEnvironment t) (.badPc t.pc))

/-- A conditional jump, K form (rules R200, R201, R204). -/
def JumpK (w : Nat) (mk : Reg → Word32 → BitVec 16 → Instr) (op : BitVec 8) (g : Group)
    (C : BitVec w → BitVec w → Prop) : Prop :=
  ∀ dst imm offset, Encoded (mk dst imm offset) ⟨op, regBits dst, 0, offset, imm⟩ g ∧
    BadTargetFaults (mk dst imm offset) ∧ ∀ s : State,
    (∀ a, s.regs[dst] = some a →
      (C (a.setWidth w) (imm.signExtend w) →
        exec (mk dst imm offset) s = .next (Jumped s (s.pc + 1 + offset.toInt))) ∧
      (¬ C (a.setWidth w) (imm.signExtend w) → exec (mk dst imm offset) s = .next (Jumped s (s.pc + 1)))) ∧
    (s.regs[dst] = none → exec (mk dst imm offset) s = .next (Faulted s (.unwrittenRegister dst)))

/-- A conditional jump, X form: both operands are read whether or not it is taken (rules R200, R201, R204). -/
def JumpX (w : Nat) (mk : Reg → Reg → BitVec 16 → Instr) (op : BitVec 8) (g : Group)
    (C : BitVec w → BitVec w → Prop) : Prop :=
  ∀ dst src offset, Encoded (mk dst src offset) ⟨op, regBits dst, regBits src, offset, 0⟩ g ∧
    BadTargetFaults (mk dst src offset) ∧ ∀ s : State,
    (∀ a b, s.regs[dst] = some a → s.regs[src] = some b →
      (C (a.setWidth w) (b.setWidth w) →
        exec (mk dst src offset) s = .next (Jumped s (s.pc + 1 + offset.toInt))) ∧
      (¬ C (a.setWidth w) (b.setWidth w) → exec (mk dst src offset) s = .next (Jumped s (s.pc + 1)))) ∧
    (s.regs[dst] = none → exec (mk dst src offset) s = .next (Faulted s (.unwrittenRegister dst))) ∧
    (s.regs[dst] ≠ none → s.regs[src] = none →
      exec (mk dst src offset) s = .next (Faulted s (.unwrittenRegister src)))

/-! Memory -/

/-- Where byte `k` above an address stands in an `n`-byte value (rule R42). -/
def place (e : Endian) (n k : Nat) : Nat :=
  match e with
  | .little => k
  | .big => n - 1 - k

/-- The number the `n` bytes at `a` stand for (rule R42). -/
def value (e : Endian) (m : Memory) (a n : Nat) : Nat :=
  ((List.range n).map fun k => (m.read (a + k)).toNat * 256 ^ place e n k).sum

/-- The `n` bytes at `a` hold the low `8n` bits of `v` (rule R42). -/
def Holds (e : Endian) (m : Memory) (a n : Nat) (v : Word) : Prop :=
  ∀ k, k < n → m.read (a + k) = v.extractLsb' (8 * place e n k) 8

/-- Every byte but the `n` at `a` is the same in both memories. -/
def SameOutside (m m' : Memory) (a n : Nat) : Prop := ∀ b, b < a ∨ a + n ≤ b → m'.read b = m.read b

/-- `ACCESSIBLE(ea, n, kind)` (rule R44). -/
abbrev Accessible (s : State) (ea : Word) (n : Nat) (kind : AccessKind) : Prop :=
  ∃ g ∈ s.params.accessible, g.kind = kind ∧ g.size = n ∧ g.first.toNat ≤ ea.toNat ∧ ea.toNat ≤ g.last.toNat

/-- The access is aligned, or is an ordinary one and `MISALIGNED = perform` (rule R43). -/
abbrev AlignedEnough (s : State) (ea : Word) (n : Nat) (kind : AccessKind) : Prop :=
  ea.toNat % n = 0 ∨ kind ≠ .atomic ∧ s.params.misaligned = .perform

/-- The faults of an access, in their order (rules R43, R44, R405). -/
def AccessFaults (i : Instr) (s : State) (ea : Word) (n : Nat) (kind : AccessKind) : Prop :=
  (2 ^ 64 < ea.toNat + n → exec i s = .next (Faulted s (.memoryFault ea n kind .wraps))) ∧
  (ea.toNat + n ≤ 2 ^ 64 → ¬ AlignedEnough s ea n kind →
    exec i s = .next (Faulted s (.memoryFault ea n kind .misaligned))) ∧
  (ea.toNat + n ≤ 2 ^ 64 → AlignedEnough s ea n kind → ¬ Accessible s ea n kind →
    exec i s = .next (Faulted s (.memoryFault ea n kind .notAccessible)))

/-- The access is admitted (rules R43, R44). -/
abbrev Admitted (s : State) (ea : Word) (n : Nat) (kind : AccessKind) : Prop :=
  ea.toNat + n ≤ 2 ^ 64 ∧ AlignedEnough s ea n kind ∧ Accessible s ea n kind

/-- No other agent acts inside the access: it is aligned, or the environment's turn in this step does not name each of
its bytes once (rule R45, log entries 10, 12). The other case is `TornBy`. -/
def Quiet (s : State) (ea : Word) (n : Nat) : Prop :=
  ea.toNat % n = 0 ∨
    ∀ t, s.turn = some t → ¬ (t.order.map (·.1)).Perm (List.range n)

/-- A load of `n` bytes; `R t v` says how the register's new value `v` comes from the number `t` in memory. -/
def Load (n : Nat) (mk : Reg → Reg → BitVec 16 → Instr) (op : BitVec 8) (g : Group) (R : Nat → Word → Prop) : Prop :=
  ∀ dst src offset, Encoded (mk dst src offset) ⟨op, regBits dst, regBits src, offset, 0⟩ g ∧ ∀ s : State,
    (s.regs[src] = none → exec (mk dst src offset) s = .next (Faulted s (.unwrittenRegister src))) ∧
    ∀ base, s.regs[src] = some base →
      let ea := base + offset.signExtend 64
      AccessFaults (mk dst src offset) s ea n .read ∧
      (Admitted s ea n .read → Quiet s ea n → ∃ v, R (value s.params.hostEndian s.mem ea.toNat n) v ∧
        exec (mk dst src offset) s = .next (Wrote s dst v 1))

/-- What a store of the low `8n` bits of `v` at `ea` does. -/
def StoresAt (i : Instr) (s : State) (ea : Word) (n : Nat) (v : Word) : Prop :=
  AccessFaults i s ea n .write ∧
  (Admitted s ea n .write → Quiet s ea n → ∃ m, Holds s.params.hostEndian m ea.toNat n v ∧
    SameOutside s.mem m ea.toNat n ∧ exec i s = .next (Stored s m))

/-- An immediate store of `n` bytes (rule R270). -/
def StoreImm (n : Nat) (mk : Reg → BitVec 16 → Word32 → Instr) (op : BitVec 8) (g : Group) : Prop :=
  ∀ dst offset imm, Encoded (mk dst offset imm) ⟨op, regBits dst, 0, offset, imm⟩ g ∧ ∀ s : State,
    (s.regs[dst] = none → exec (mk dst offset imm) s = .next (Faulted s (.unwrittenRegister dst))) ∧
    ∀ base, s.regs[dst] = some base →
      StoresAt (mk dst offset imm) s (base + offset.signExtend 64) n (imm.signExtend 64)

/-- A register store of `n` bytes (rule R270). -/
def StoreReg (n : Nat) (mk : Reg → Reg → BitVec 16 → Instr) (op : BitVec 8) (g : Group) : Prop :=
  ∀ dst src offset, Encoded (mk dst src offset) ⟨op, regBits dst, regBits src, offset, 0⟩ g ∧ ∀ s : State,
    (s.regs[dst] = none → exec (mk dst src offset) s = .next (Faulted s (.unwrittenRegister dst))) ∧
    (s.regs[dst] ≠ none → s.regs[src] = none →
      exec (mk dst src offset) s = .next (Faulted s (.unwrittenRegister src))) ∧
    ∀ base v, s.regs[dst] = some base → s.regs[src] = some v →
      StoresAt (mk dst src offset) s (base + offset.signExtend 64) n v

/-- The registers of an atomic and the faults of its access (rules R300, R302): `dst` is read before `src`. -/
def AtomicReads (mk : Reg → Reg → BitVec 16 → Instr) (op : BitVec 8) (imm : Word32) (g : Group) : Prop :=
  ∀ dst src offset, Encoded (mk dst src offset) ⟨op, regBits dst, regBits src, offset, imm⟩ g ∧ ∀ s : State,
    (s.regs[dst] = none → exec (mk dst src offset) s = .next (Faulted s (.unwrittenRegister dst))) ∧
    (s.regs[dst] ≠ none → s.regs[src] = none →
      exec (mk dst src offset) s = .next (Faulted s (.unwrittenRegister src)))

/-- An atomic of `n` bytes that writes no register: the number in memory becomes `F old operand`, in one access. -/
def AtomicOp (n : Nat) (mk : Reg → Reg → BitVec 16 → Instr) (op : BitVec 8) (imm : Word32) (g : Group)
    (F : Nat → Nat → Nat) : Prop :=
  AtomicReads mk op imm g ∧ ∀ dst src offset (s : State) base v,
    s.regs[dst] = some base → s.regs[src] = some v →
      let ea := base + offset.signExtend 64
      AccessFaults (mk dst src offset) s ea n .atomic ∧
      (Admitted s ea n .atomic → ∃ m, SameOutside s.mem m ea.toNat n ∧
        value s.params.hostEndian m ea.toNat n
          = F (value s.params.hostEndian s.mem ea.toNat n) (v.toNat % 2 ^ (8 * n)) ∧
        exec (mk dst src offset) s = .next (Stored s m))

/-- An atomic of `n` bytes that also writes the old number, zero extended, to `x[src]`. -/
def AtomicFetch (n : Nat) (mk : Reg → Reg → BitVec 16 → Instr) (op : BitVec 8) (imm : Word32) (g : Group)
    (F : Nat → Nat → Nat) : Prop :=
  AtomicReads mk op imm g ∧ ∀ dst src offset (s : State) base v,
    s.regs[dst] = some base → s.regs[src] = some v →
      let ea := base + offset.signExtend 64
      AccessFaults (mk dst src offset) s ea n .atomic ∧
      (Admitted s ea n .atomic → ∃ m old, SameOutside s.mem m ea.toNat n ∧
        old.toNat = value s.params.hostEndian s.mem ea.toNat n ∧
        value s.params.hostEndian m ea.toNat n = F old.toNat (v.toNat % 2 ^ (8 * n)) ∧
        exec (mk dst src offset) s = .next (Wrote { s with mem := m } src old 1))

/-- Compare and exchange of `n` bytes (rules R301, R312, R322): R0 is read last and receives the old number. -/
def AtomicCmpxchg (n : Nat) (mk : Reg → Reg → BitVec 16 → Instr) (op : BitVec 8) (imm : Word32) (g : Group) : Prop :=
  AtomicReads mk op imm g ∧ ∀ dst src offset (s : State) base v,
    s.regs[dst] = some base → s.regs[src] = some v →
      (s.regs[(0 : Reg)] = none → exec (mk dst src offset) s = .next (Faulted s (.unwrittenRegister 0))) ∧
      ∀ r0, s.regs[(0 : Reg)] = some r0 →
        let ea := base + offset.signExtend 64
        AccessFaults (mk dst src offset) s ea n .atomic ∧
        (Admitted s ea n .atomic → ∃ m old, SameOutside s.mem m ea.toNat n ∧
          old.toNat = value s.params.hostEndian s.mem ea.toNat n ∧
          value s.params.hostEndian m ea.toNat n
            = (if old.toNat = r0.toNat % 2 ^ (8 * n) then v.toNat % 2 ^ (8 * n) else old.toNat) ∧
          exec (mk dst src offset) s = .next (Wrote { s with mem := m } 0 old 1))

/-- A wide load of an address the platform gives, or `PlatformFault` (rule R330). -/
def AddressLoad (i : Instr) (dst : Reg) (imm : Word32) (what : PlatformReason) (v : State → Option Word) : Prop :=
  ∀ s : State, (∀ a, v s = some a → exec i s = .next (Wrote s dst a 2)) ∧
    (v s = none → exec i s = .next (Faulted s (.platformFault what imm)))

/-- The linear sweep of rule R74: the slot indices it produces. -/
inductive Sweep (p : List Slot) : Nat → Prop where
  | start : Sweep p 0
  | wide {t : Nat} (s : Slot) : Sweep p t → p[t]? = some s → s.b0 = 0x18 → Sweep p (t + 2)
  | basic {t : Nat} (s : Slot) : Sweep p t → p[t]? = some s → s.b0 ≠ 0x18 → Sweep p (t + 1)

/-- The opcode values Table O defines (rule R77): the 126 that are not reserved, 0x00 left out. -/
def definedOpcodes : List (BitVec 8) :=
  [0x04, 0x05, 0x06, 0x07, 0x0c, 0x0f, 0x14, 0x15, 0x16, 0x17, 0x18, 0x1c, 0x1d, 0x1e, 0x1f, 0x20, 0x24, 0x25,
   0x26, 0x27, 0x28, 0x2c, 0x2d, 0x2e, 0x2f, 0x30, 0x34, 0x35, 0x36, 0x37, 0x3c, 0x3d, 0x3e, 0x3f, 0x40, 0x44,
   0x45, 0x46, 0x47, 0x48, 0x4c, 0x4d, 0x4e, 0x4f, 0x50, 0x54, 0x55, 0x56, 0x57, 0x5c, 0x5d, 0x5e, 0x5f, 0x61,
   0x62, 0x63, 0x64, 0x65, 0x66, 0x67, 0x69, 0x6a, 0x6b, 0x6c, 0x6d, 0x6e, 0x6f, 0x71, 0x72, 0x73, 0x74, 0x75,
   0x76, 0x77, 0x79, 0x7a, 0x7b, 0x7c, 0x7d, 0x7e, 0x7f, 0x81, 0x84, 0x85, 0x87, 0x89, 0x91, 0x94, 0x95, 0x97,
   0x9c, 0x9f, 0xa4, 0xa5, 0xa6, 0xa7, 0xac, 0xad, 0xae, 0xaf, 0xb4, 0xb5, 0xb6, 0xb7, 0xbc, 0xbd, 0xbe, 0xbf,
   0xc3, 0xc4, 0xc5, 0xc6, 0xc7, 0xcc, 0xcd, 0xce, 0xcf, 0xd4, 0xd5, 0xd6, 0xd7, 0xdb, 0xdc, 0xdd, 0xde]

/-- Not a call of a helper, whose relation may see and change all of memory (rule R251). -/
def NoHelper (i : Instr) : Prop := ∀ imm, i ≠ .callHelper imm ∧ i ≠ .callBtf imm

/-- Byte `a` lies in some access the platform admits of one of these kinds (rule R44). -/
def Reaches (s : State) (kinds : List AccessKind) (a : Nat) : Prop :=
  ∃ g ∈ s.params.accessible, g.kind ∈ kinds ∧
    ∃ ea : Word, g.first ≤ ea ∧ ea ≤ g.last ∧ ea.toNat ≤ a ∧ a < ea.toNat + g.size

/-- Two states that differ at most in bytes of memory the program cannot read (Table R: bytes outside `ACCESSIBLE`
cannot be observed). -/
def SameVisible (s t : State) : Prop :=
  t = { s with mem := t.mem } ∧ ∀ a, Reaches s [.read, .atomic] a → t.mem.read a = s.mem.read a

/-- A relation taken `n` times. -/
def Times {α : Type} (R : α → α → Prop) : Nat → α → α → Prop
  | 0, x, y => y = x
  | n + 1, x, y => ∃ z, R x z ∧ Times R n z y

/-- Which states a platform's relation relates to which, written as a relation (rule R251; its form is the model's
choice, log entry 8). `c` is where it is used. -/
def Relates (c : PlatformSite) : HelperRel → PlatformState → PlatformState → Prop
  | .skip => fun x y => y = x
  | .fail => fun _ _ => False
  | .setReg r e => fun x y => y = { x with regs := x.regs.set r (PlatformExpr.eval c x e) }
  | .setVar k e => fun x y => y = { x with vars := (k, PlatformExpr.eval c x e) :: x.vars }
  | .store n ea v => fun x y => ∃ a w, PlatformExpr.eval c x ea = some a ∧ PlatformExpr.eval c x v = some w ∧
      y = { x with mem := x.mem.store c.endian a.toNat n w }
  | .anyMem => fun x y => y = { x with mem := Memory.writeCells [] (Config.freeMem c.site c.ticks c.regs c.mem) }
  | .test e => fun x y => y = x ∧ ∃ w, PlatformExpr.eval c x e = some w ∧ w ≠ 0
  | .pick k last => fun x y => ∃ w v, PlatformExpr.eval c x last = some w ∧ v ≤ w ∧
      y = { x with vars := (k, some v) :: x.vars }
  | .seq a b => fun x y => ∃ z, Relates c a x z ∧ Relates c b z y
  | .either a b => fun x y => Relates c a x y ∨ Relates c b x y
  | .loop n b => fun x y => ∃ k, PlatformExpr.eval c x n = some k ∧ Times (Relates c b) k.toNat x y

/-- What the helper relation `h`, called at a site from `s`, may leave in the registers and memory (rule R251). -/
def HelperLeaves (s : State) (site : FreeSite) (h : HelperRel) (y : PlatformState) : Prop :=
  Relates ⟨site, s.ticks, s.params.hostEndian, s.regs, s.mem⟩ h ⟨s.regs, s.mem, []⟩ y

/-- What the relation of the environment's turn `u` may leave, after its writes (rule R48; log entry 10). It sees no
register of this program. -/
def TurnLeaves (s : State) (u : EnvTurn) (y : PlatformState) : Prop :=
  Relates ⟨.environment, s.ticks, s.params.hostEndian, s.regs, s.mem⟩ u.act
    ⟨Vector.replicate 11 none, s.mem.writeCells u.before, []⟩ y

/-- What a call of a helper found in `table` does (rules R251, R253): the relation's registers and memory replace the
machine's, and `pc + 1`; or a fault where there is no such helper or its relation relates the state to nothing. -/
def HelperCall (i : Instr) (imm : Word32) (s : State) (site : FreeSite) (table : List (Word32 × HelperRel)) : Prop :=
  (table.lookup imm = none → exec i s = .next (Faulted s (.platformFault .unknownHelper imm))) ∧
  ∀ h, table.lookup imm = some h →
    ((∀ y, ¬ HelperLeaves s site h y) → exec i s = .next (Faulted s (.platformFault .helperFailed imm))) ∧
    ((∃ y, HelperLeaves s site h y) → ∃ y, HelperLeaves s site h y ∧
      exec i s = .next { s with regs := y.regs, mem := y.mem, pc := s.pc + 1, ticks := s.ticks + 1 })

/-- A call instruction completes wherever its helper exists and relates the state to some state (rule R251), and where
the relation leaves one state alone, that one is taken. -/
def HelperCompletes (i : Instr) (imm : Word32) (s : State) (site : FreeSite) (table : List (Word32 × HelperRel)) :
    Prop :=
  (∀ h y, table.lookup imm = some h → HelperLeaves s site h y → ∃ t, exec i s = .next t ∧ t.pc = s.pc + 1 ∧
    t.cs = s.cs ∧ t.params = s.params ∧ t.status = s.status) ∧
  ∀ h y, table.lookup imm = some h → HelperLeaves s site h y →
    (∀ z, HelperLeaves s site h z → z.regs = y.regs ∧ z.mem = y.mem) →
    exec i s = .next { s with regs := y.regs, mem := y.mem, pc := s.pc + 1, ticks := s.ticks + 1 }

/-- The registers an instruction's rule reads itself, in the order of rule R408: destination, source, R0. A helper's
relation and a `CALL_ABI` are the platform's, not the instruction's rule. -/
def reads : Instr → List Reg
  | .add32K dst _ | .sub32K dst _ | .mul32K dst _ | .div32K dst _ | .sdiv32K dst _ | .or32K dst _
  | .and32K dst _ | .lsh32K dst _ | .rsh32K dst _ | .neg32 dst | .mod32K dst _ | .smod32K dst _ | .xor32K dst _
  | .arsh32K dst _ | .add64K dst _ | .sub64K dst _ | .mul64K dst _ | .div64K dst _ | .sdiv64K dst _
  | .or64K dst _ | .and64K dst _ | .lsh64K dst _ | .rsh64K dst _ | .neg64 dst | .mod64K dst _ | .smod64K dst _
  | .xor64K dst _ | .arsh64K dst _ | .le16 dst | .le32 dst | .le64 dst | .be16 dst | .be32 dst | .be64 dst
  | .bswap16 dst | .bswap32 dst | .bswap64 dst | .jeq64K dst _ _ | .jeq32K dst _ _ | .jgt64K dst _ _
  | .jgt32K dst _ _ | .jge64K dst _ _ | .jge32K dst _ _ | .jset64K dst _ _ | .jset32K dst _ _ | .jne64K dst _ _
  | .jne32K dst _ _ | .jsgt64K dst _ _ | .jsgt32K dst _ _ | .jsge64K dst _ _ | .jsge32K dst _ _
  | .jlt64K dst _ _ | .jlt32K dst _ _ | .jle64K dst _ _ | .jle32K dst _ _ | .jslt64K dst _ _ | .jslt32K dst _ _
  | .jsle64K dst _ _ | .jsle32K dst _ _ | .stw dst _ _ | .sth dst _ _ | .stb dst _ _ | .stdw dst _ _ => [dst]
  | .add32X dst src | .sub32X dst src | .mul32X dst src | .div32X dst src | .sdiv32X dst src | .or32X dst src
  | .and32X dst src | .lsh32X dst src | .rsh32X dst src | .mod32X dst src | .smod32X dst src | .xor32X dst src
  | .arsh32X dst src | .add64X dst src | .sub64X dst src | .mul64X dst src | .div64X dst src | .sdiv64X dst src
  | .or64X dst src | .and64X dst src | .lsh64X dst src | .rsh64X dst src | .mod64X dst src | .smod64X dst src
  | .xor64X dst src | .arsh64X dst src | .jeq64X dst src _ | .jeq32X dst src _ | .jgt64X dst src _
  | .jgt32X dst src _ | .jge64X dst src _ | .jge32X dst src _ | .jset64X dst src _ | .jset32X dst src _
  | .jne64X dst src _ | .jne32X dst src _ | .jsgt64X dst src _ | .jsgt32X dst src _ | .jsge64X dst src _
  | .jsge32X dst src _ | .jlt64X dst src _ | .jlt32X dst src _ | .jle64X dst src _ | .jle32X dst src _
  | .jslt64X dst src _ | .jslt32X dst src _ | .jsle64X dst src _ | .jsle32X dst src _ | .stxw dst src _
  | .stxh dst src _ | .stxb dst src _ | .stxdw dst src _ | .atomicAdd32 dst src _ | .atomicOr32 dst src _
  | .atomicAnd32 dst src _ | .atomicXor32 dst src _ | .atomicFetchAdd32 dst src _ | .atomicFetchOr32 dst src _
  | .atomicFetchAnd32 dst src _ | .atomicFetchXor32 dst src _ | .atomicXchg32 dst src _
  | .atomicAdd64 dst src _ | .atomicOr64 dst src _ | .atomicAnd64 dst src _ | .atomicXor64 dst src _
  | .atomicFetchAdd64 dst src _ | .atomicFetchOr64 dst src _ | .atomicFetchAnd64 dst src _
  | .atomicFetchXor64 dst src _ | .atomicXchg64 dst src _ => [dst, src]
  | .mov32X _ src | .movsx32_8 _ src | .movsx32_16 _ src | .mov64X _ src | .movsx64_8 _ src | .movsx64_16 _ src
  | .movsx64_32 _ src | .ldxw _ src _ | .ldxh _ src _ | .ldxb _ src _ | .ldxdw _ src _ | .ldxsw _ src _
  | .ldxsh _ src _ | .ldxsb _ src _ => [src]
  | .atomicCmpxchg32 dst src _ | .atomicCmpxchg64 dst src _ => [dst, src, 0]
  | .mov32K _ _ | .mov64K _ _ | .ja _ | .ja32 _ | .callHelper _ | .callLocal _ | .callBtf _ | .exit
  | .lddw _ _ _ | .ldMapFd _ _ | .ldMapValFd _ _ _ | .ldVarAddr _ _ | .ldCodeAddr _ _ | .ldMapIdx _ _
  | .ldMapValIdx _ _ _ | .imm64SecondSlot _ | .ldabsw _ | .ldabsh _ | .ldabsb _ | .ldindw _ _ | .ldindh _ _
  | .ldindb _ _ => []

/-- The environment's doing inside a torn `n`-byte access of the current step names each byte once (rule R45, log entry
12). -/
def TornBy (s : State) (n : Nat) (order : List (Nat × List Host.Cell)) : Prop :=
  ∃ t, s.turn = some t ∧ t.order = order ∧ (order.map (·.1)).Perm (List.range n)

/-- A misaligned load under `MISALIGNED = perform` (rule R45): each byte is read after the environment's writes up to
its turn, and memory ends with all of those writes. `ext` is the extension of the loaded number. -/
def TornLoad (n : Nat) (mk : Reg → Reg → BitVec 16 → Instr) (ext : Word → Word) : Prop :=
  ∀ dst src offset (s : State) base order, s.regs[src] = some base → TornBy s n order →
    let ea := base + offset.signExtend 64
    Admitted s ea n .read → ea.toNat % n ≠ 0 → ∃ v : Word,
      (∀ pre k cells post, order = pre ++ (k, cells) :: post →
        v.extractLsb' (8 * place s.params.hostEndian n k) 8
          = (s.mem.writeCells (pre.flatMap (·.2) ++ cells)).read (ea.toNat + k)) ∧
      v.toNat < 2 ^ (8 * n) ∧
      exec (mk dst src offset) s
        = .next (Wrote { s with mem := s.mem.writeCells (order.flatMap (·.2)) } dst (ext v) 1)

/-- What a misaligned store of the low `8n` bits of `v` at `ea` does under `MISALIGNED = perform` (rule R45): outside its
bytes memory is as the environment's writes leave it; byte `k` holds the value's byte from its turn on, unless the
environment's later writes replace it. -/
def TornStoresAt (i : Instr) (s : State) (ea : Word) (n : Nat) (v : Word) : Prop :=
  ∀ order, TornBy s n order → Admitted s ea n .write → ea.toNat % n ≠ 0 → ∃ m : Memory,
    SameOutside (s.mem.writeCells (order.flatMap (·.2))) m ea.toNat n ∧
    (∀ pre k cells post, order = pre ++ (k, cells) :: post →
      m.read (ea.toNat + k)
        = ((s.mem.write (ea.toNat + k) (v.extractLsb' (8 * place s.params.hostEndian n k) 8)).writeCells
            (post.flatMap (·.2))).read (ea.toNat + k)) ∧
    exec i s = .next (Stored s m)

/-- The torn register stores. -/
def TornStoreReg (n : Nat) (mk : Reg → Reg → BitVec 16 → Instr) : Prop :=
  ∀ dst src offset (s : State) base v, s.regs[dst] = some base → s.regs[src] = some v →
    TornStoresAt (mk dst src offset) s (base + offset.signExtend 64) n v

/-- The torn immediate stores. -/
def TornStoreImm (n : Nat) (mk : Reg → BitVec 16 → Word32 → Instr) : Prop :=
  ∀ dst offset imm (s : State) base, s.regs[dst] = some base →
    TornStoresAt (mk dst offset imm) s (base + offset.signExtend 64) n (imm.signExtend 64)

end Sys2Proof.Spec

open Sys2Proof Sys2Proof.Machine Sys2Proof.Spec

/-- Rule R450: The entry state of a run is Table R. -/
def Obligations.EntryStateIsTableR : Prop :=
  ∀ (p : Params) (m : Memory),
    (State.entry p m).pc = p.entryPc ∧ (State.entry p m).cs = [] ∧ (State.entry p m).mem = m ∧
    (State.entry p m).status = .running ∧ (State.entry p m).params = p ∧
    Params.default.entryPc = 0 ∧ ∀ r : Reg, (State.entry p m).regs[r] = p.entryRegs.lookup r

/-- Rules 70_reset_and_hazards.md R450, 92_eei_decisions.md D17 D18: The model's reset state (its own choices: log
entries 1 to 5 and 11). The MODEL'S CHOICE where rule R450 gives no value: log entries 1 (registers), 2 (byte
order), 4 (memory), 5 (program), 11 (counter). -/
def Obligations.ResetStateOfTheModel : Prop :=
  State.reset = State.entry Params.default [] ∧ (∀ r : Reg, State.reset.regs[r] = some 0) ∧ State.reset.pc = 0 ∧
    State.reset.cs = [] ∧ State.reset.mem = [] ∧ State.reset.status = .running ∧
    State.reset.params.groups = [.base32, .base64, .atomic32, .atomic64, .divmul32, .divmul64] ∧
    State.reset.params.hostEndian = .little ∧ State.reset.params.program = [] ∧ State.reset.ticks = 0

/-- Rule R63: The worked example and one word per family decode as the spec says. -/
def Obligations.DecodingOfWrittenWords : Prop :=
  decodeProgram .little [⟨0x07, 0x01, 0x00, 0x00, 0x44, 0x33, 0x22, 0x11⟩] = .ok (.add64K 1 0x11223344) ∧
  decodeProgram .big [⟨0x07, 0x10, 0x00, 0x00, 0x11, 0x22, 0x33, 0x44⟩] = .ok (.add64K 1 0x11223344) ∧
  (Slot.fields .little ⟨0x07, 0x01, 0x00, 0x00, 0x44, 0x33, 0x22, 0x11⟩).word = 0x1122334400000107 ∧
  (Slot.fields .big ⟨0x07, 0x10, 0x00, 0x00, 0x11, 0x22, 0x33, 0x44⟩).word = 0x1122334400000107 ∧
  decodeProgram .little [⟨0x34, 0x01, 0x01, 0x00, 0xfe, 0xff, 0xff, 0xff⟩] = .ok (.sdiv32K 1 0xfffffffe) ∧
  decodeProgram .little [⟨0xdc, 0x01, 0x00, 0x00, 0x10, 0x00, 0x00, 0x00⟩] = .ok (.be16 1) ∧
  decodeProgram .little [⟨0x05, 0x00, 0xfd, 0xff, 0x00, 0x00, 0x00, 0x00⟩] = .ok (.ja 0xfffd) ∧
  decodeProgram .big [⟨0x55, 0x10, 0xff, 0xfd, 0x00, 0x00, 0x00, 0x00⟩] = .ok (.jne64K 1 0 0xfffd) ∧
  decodeProgram .little [⟨0x91, 0x21, 0x08, 0x00, 0x00, 0x00, 0x00, 0x00⟩] = .ok (.ldxsb 1 2 8) ∧
  decodeProgram .big [⟨0xdb, 0x12, 0x00, 0x00, 0x00, 0x00, 0x00, 0xf1⟩] = .ok (.atomicCmpxchg64 1 2 0) ∧
  decodeProgram .little [⟨0x18, 0x21, 0, 0, 5, 0, 0, 0⟩, ⟨0, 0, 0, 0, 0x10, 0, 0, 0⟩] = .ok (.ldMapValFd 1 5 16) ∧
  decodeProgram .big [⟨0x40, 0x03, 0x00, 0x00, 0x00, 0x00, 0x00, 0x0e⟩] = .ok (.ldindw 3 14)

/-- Rules R61, R62: Slots, fields and normalised words determine each other in both byte orders. -/
def Obligations.SlotLayoutIsABijection : Prop :=
  (∀ (e : Endian) (s : Slot), (s.fields e).toSlot e = s) ∧ (∀ (e : Endian) (f : Fields), (f.toSlot e).fields e = f) ∧
    (∀ w, (Fields.ofWord w).word = w) ∧ ∀ f : Fields, Fields.ofWord f.word = f

/-- Rules R62, R64, R65, R73: Decoding an encoded instruction gives it back. -/
def Obligations.DecodeOfEncode : Prop :=
  ∀ (e : Endian) (i : Instr) (more : List Slot), i.wellFormed = true →
    decodeProgram e (encodeSlots e i ++ more) = .ok i

/-- Rules R64, R65, R73, R78: Encoding a decoded instruction gives the slots back. -/
def Obligations.EncodeOfDecode : Prop :=
  ∀ (f : Fields) (next : Option Fields) (i : Instr), decodeFields f next = .ok i →
    i.wellFormed = true ∧ encode i = f :: (if f.opcode = 0x18 then next.toList else [])

/-- Rules R76, R77: The 130 opcode values Table O does not define decode to Reserved. -/
def Obligations.ReservedOpcodes : Prop :=
  (∀ (f : Fields) (next : Option Fields), f.opcode ∉ definedOpcodes → decodeFields f next = .error .reserved) ∧
    (∀ op ∈ definedOpcodes, ∃ f next i, f.opcode = op ∧ decodeFields f next = .ok i) ∧ definedOpcodes.length = 125

/-- Rules R65, R73, R402: A 0x18 slot needs a well-formed second slot. -/
def Obligations.WideSecondSlot : Prop :=
  ∀ f : Fields, f.opcode = 0x18 →
    decodeFields f none = .error .truncated ∧
    (∀ g : Fields, ¬ (g.opcode = 0 ∧ g.dst = 0 ∧ g.src = 0 ∧ g.offset = 0) →
      decodeFields f (some g) = .error .badSecondSlot) ∧
    ∀ n : Word32, n ≠ 0 → f.offset = 0 → f.src = 1 ∨ f.src = 3 ∨ f.src = 4 ∨ f.src = 5 →
      decodeFields f (some ⟨0, 0, 0, 0, n⟩) = .error .nonZeroUnused

/-- Rules R73, R78, R409: BadRegister is reported exactly for an encoding otherwise well formed. -/
def Obligations.BadRegisterOnlyAtTheEnd : Prop :=
  ∀ (f : Fields) (next : Option Fields), decodeFields f next = .error .badRegister ↔
    (10 < f.dst.toNat ∨ 10 < f.src.toNat) ∧
      ∀ d s : BitVec 4, d.toNat ≤ 10 → s.toNat ≤ 10 →
        ∃ i, decodeFields { f with
          dst := if 10 < f.dst.toNat then d else f.dst
          src := if 10 < f.src.toNat then s else f.src } next = .ok i

/-- Rule R74: The instruction boundaries are the linear sweep of rule R74. -/
def Obligations.BoundariesAreTheLinearSweep : Prop :=
  (∀ (p : List Slot) (t : Nat), boundary p t = true ↔ t < p.length ∧ Sweep p t) ∧
  (∀ (p : List Slot) (t : Nat), t < p.length → boundary p t = false →
    ∃ u w, Sweep p u ∧ p[u]? = some w ∧ w.b0 = 0x18 ∧ t = u + 1) ∧
  ∀ s : State, s.pc < 0 ∨ s.params.program.length ≤ s.pc ∨ boundary s.params.program s.pc.toNat = false →
    s.fetch = .error (.badPc s.pc)

/-- Rules R73, R420: A step runs the instruction decoded at pc. The environment's turn is data, by the MODEL'S
CHOICE (log entry 10). -/
def Obligations.StepRunsTheDecodedInstruction : Prop :=
  ∀ (s : State) (i : Instr), s.status = .running → AdmissibleGroups s.params.groups →
    Params.fetchable s.params s.pc = true →
    decodeProgram s.params.hostEndian (s.params.program.drop s.pc.toNat) = .ok i → i.group ∈ s.params.groups →
    i.wellFormed = true ∧ step s = exec i (AfterEnvironment s)

/-- Rules R73, R402, R403, R404, R409, R420: The faults of fetch and decode, in their order. The environment's turn
is data, by the MODEL'S CHOICE (log entry 10). -/
def Obligations.FaultsOfFetchAndDecode : Prop :=
  ∀ s : State, s.status = .running → AdmissibleGroups s.params.groups →
    (s.pc < 0 ∨ boundary s.params.program s.pc.toNat = false →
      step s = .next (Faulted (AfterEnvironment s) (.badPc s.pc))) ∧
    (0 ≤ s.pc → boundary s.params.program s.pc.toNat = true →
      (∀ r, decodeProgram s.params.hostEndian (s.params.program.drop s.pc.toNat) = .error r →
        step s = .next (Faulted (AfterEnvironment s) (.illegalInstruction s.pc r))) ∧
      ∀ i, decodeProgram s.params.hostEndian (s.params.program.drop s.pc.toNat) = .ok i →
        i.group ∉ s.params.groups →
        step s = .next (Faulted (AfterEnvironment s) (.unsupportedGroup s.pc i.group)))

/-- Rules R30, R411: No step is defined from a state that is not Running. The host-level fault is the MODEL'S CHOICE
(log entry 6): the spec says the step is not defined. -/
def Obligations.StoppedMachineHasNoStep : Prop :=
  ∀ s : State, s.status ≠ .running → step s = .fault (.halted s.status)

/-- Rules R2, R7, R350: A configuration with inadmissible GROUPS is refused, and only such a one. That the refusal
comes from the step is the MODEL'S CHOICE (log entry 13). -/
def Obligations.InadmissibleGroupsAreRefused : Prop :=
  ∀ s : State, (∃ r, step s = .refused r) ↔ s.status = .running ∧ ¬ AdmissibleGroups s.params.groups

/-- Rules R420, R421: Every Running admissible state has a next state. -/
def Obligations.StepIsTotal : Prop :=
  ∀ s : State, s.status = .running → AdmissibleGroups s.params.groups → ∃ t, step s = .next t

/-- Rules R400, R411, R420: A fault changes nothing but the status (log entries 6, 10). The host-level fault of the
last clause is the MODEL'S CHOICE (log entry 6), and so is the form of the environment (log entry 10). -/
def Obligations.FaultChangesNothingElse : Prop :=
  (∀ (i : Instr) (s t : State) (tr : Trap), s.status = .running → exec i s = .next t → t.status = .faulted tr →
      t = Faulted s tr) ∧
    (∀ (s t : State) (tr : Trap), step s = .next t → t.status = .faulted tr → t = Faulted (AfterEnvironment s) tr) ∧
    ∀ (s : State) (tr : Trap), s.status = .faulted tr → step s = .fault (.halted (.faulted tr))

/-- Rules R30, R254: A run ends normally only by EXIT with an empty call stack. The environment's turn is data, by
the MODEL'S CHOICE (log entry 10). -/
def Obligations.OnlyExitEndsARun : Prop :=
  ∀ s t : State, step s = .next t → t.status = .exited →
    s.fetch = .ok .exit ∧ s.cs = [] ∧ t = { AfterEnvironment s with status := .exited }

/-- Rules R28, R29, R50: No step changes PROGRAM or any other parameter. -/
def Obligations.ParametersNeverChange : Prop :=
  (∀ (i : Instr) (s t : State), exec i s = .next t → t.params = s.params) ∧
    ∀ s t : State, step s = .next t → t.params = s.params

/-- Rule R450: The invariant holds at reset and at every entry with canonical memory (log entries 4, 9). The
canonical form of memory (log entry 4) and the form of what a frame saves (log entry 9) are the MODEL'S CHOICES. -/
def Obligations.InvariantHoldsAtReset : Prop :=
  State.reset.Inv ∧ ∀ (p : Params) (m : Memory), m.wf → (State.entry p m).Inv

/-- Rules R25, R74, R252, R254, R407: Every step keeps the invariant (its forms: log entries 4, 9). The canonical
form of memory (log entry 4) and the form of what a frame saves (log entry 9) are the MODEL'S CHOICES. -/
def Obligations.StepKeepsTheInvariant : Prop :=
  ∀ s t : State, s.Inv → step s = .next t → t.Inv

/-- Rules R44, R47, R405, R414: A step changes no byte outside the accesses ACCESSIBLE admits for writing. -/
def Obligations.WritesStayInsideAccessible : Prop :=
  ∀ s t : State, s.params.environment = Environment.alone → (∀ i, s.fetch = .ok i → NoHelper i) → step s = .next t →
    ∀ a, t.mem.read a ≠ s.mem.read a → Reaches s [.write, .atomic] a

/-- Rules R44, R450: Bytes outside the accesses ACCESSIBLE admits for reading cannot be observed. -/
def Obligations.UnreadableBytesAreNotObserved : Prop :=
  ∀ (i : Instr) (s t s' : State), NoHelper i → s.params.callAbi = CallAbi.bare → SameVisible s t →
    exec i s = .next s' → ∃ t', exec i t = .next t' ∧ SameVisible s' t'

/-- Rule R42: A load after a store reads the stored bytes in the host's order. -/
def Obligations.LoadAfterStore : Prop :=
  ∀ (e : Endian) (m : Memory) (a n : Nat) (v : Word), n ∈ [1, 2, 4, 8] → a + n ≤ 2 ^ 64 →
    Holds e (m.store e a n v) a n v ∧ SameOutside m (m.store e a n v) a n ∧
      ((m.store e a n v).load e a n).toNat = v.toNat % 2 ^ (8 * n) ∧
      (m.load e a n).toNat = value e m a n

/-- Rule R40: Reading a byte after a byte write (memory as data: log entry 4). The canonical form and the write at
or above 2^64 that changes nothing are the MODEL'S representation of memory (log entry 4). -/
def Obligations.ByteReadAfterByteWrite : Prop :=
  ∀ (m : Memory) (a b : Nat) (v : Byte),
    (a < 2 ^ 64 → (m.write a v).read a = v) ∧ (b ≠ a → (m.write a v).read b = m.read b) ∧
      (2 ^ 64 ≤ a → m.write a v = m) ∧ (m.wf → (m.write a v).wf)

/-- Rules R62, R73, R452: withFetchWord places an instruction where the next step fetches it (log entry 5). The
placing is the MODEL'S CHOICE (log entry 5). -/
def Obligations.PlacedInstructionIsFetched : Prop :=
  ∀ (s : State) (nbits w : Nat) (i : Instr), decodeTableWord nbits w = some i →
    (s.withFetchWord nbits w).status = .running ∧ (s.withFetchWord nbits w).regs = s.regs ∧
    (s.withFetchWord nbits w).mem = s.mem ∧ (s.withFetchWord nbits w).cs = s.cs ∧
    (s.withFetchWord nbits w).ticks = s.ticks ∧
    (s.withFetchWord nbits w).params = { s.params with
      program := (s.withFetchWord nbits w).params.program
      groups := (s.withFetchWord nbits w).params.groups } ∧
    (AdmissibleGroups s.params.groups → (s.withFetchWord nbits w).params.groups = s.params.groups) ∧
    AdmissibleGroups (s.withFetchWord nbits w).params.groups ∧
    (s.withFetchWord nbits w).fetch =
      if i.group ∈ (s.withFetchWord nbits w).params.groups then .ok i
      else .error (.unsupportedGroup (s.withFetchWord nbits w).pc i.group)

/-- Rules R102, R103, R104, R105, R106, R107, R120: ALU class: ADD, SUB, MUL and NEG. -/
def Obligations.Alu32AddSubMulNeg : Prop :=
  ArithK 32 .add32K 0x04 0 .base32 (fun a b r => r.toNat = (a.toNat + b.toNat) % 2 ^ 32) ∧
  ArithX 32 .add32X 0x0c 0 .base32 (fun a b r => r.toNat = (a.toNat + b.toNat) % 2 ^ 32) ∧
  ArithK 32 .sub32K 0x14 0 .base32 (fun a b r => r.toNat = (2 ^ 32 + a.toNat - b.toNat) % 2 ^ 32) ∧
  ArithX 32 .sub32X 0x1c 0 .base32 (fun a b r => r.toNat = (2 ^ 32 + a.toNat - b.toNat) % 2 ^ 32) ∧
  ArithK 32 .mul32K 0x24 0 .divmul32 (fun a b r => r.toNat = a.toNat * b.toNat % 2 ^ 32) ∧
  ArithX 32 .mul32X 0x2c 0 .divmul32 (fun a b r => r.toNat = a.toNat * b.toNat % 2 ^ 32) ∧
  Unary 32 .neg32 0x84 0 .base32 (fun _ a r => r.toNat = (2 ^ 32 - a.toNat) % 2 ^ 32)

/-- Rules R108, R109, R110, R111, R121, R122, R123, R124: ALU class: DIV, SDIV, MOD and SMOD. -/
def Obligations.Alu32DivMod : Prop :=
  ArithK 32 .div32K 0x34 0 .divmul32 (fun a b r => r.toNat = if b.toNat = 0 then 0 else a.toNat / b.toNat) ∧
  ArithX 32 .div32X 0x3c 0 .divmul32 (fun a b r => r.toNat = if b.toNat = 0 then 0 else a.toNat / b.toNat) ∧
  ArithK 32 .sdiv32K 0x34 1 .divmul32 (fun a b r => if b.toInt = 0 then r.toNat = 0 else r = BitVec.ofInt 32 (a.toInt.tdiv b.toInt)) ∧
  ArithX 32 .sdiv32X 0x3c 1 .divmul32 (fun a b r => if b.toInt = 0 then r.toNat = 0 else r = BitVec.ofInt 32 (a.toInt.tdiv b.toInt)) ∧
  ArithK 32 .mod32K 0x94 0 .divmul32 (fun a b r => r.toNat = if b.toNat = 0 then a.toNat else a.toNat % b.toNat) ∧
  ArithX 32 .mod32X 0x9c 0 .divmul32 (fun a b r => r.toNat = if b.toNat = 0 then a.toNat else a.toNat % b.toNat) ∧
  ArithK 32 .smod32K 0x94 1 .divmul32 (fun a b r => r.toInt = if b.toInt = 0 then a.toInt else a.toInt.tmod b.toInt) ∧
  ArithX 32 .smod32X 0x9c 1 .divmul32 (fun a b r => r.toInt = if b.toInt = 0 then a.toInt else a.toInt.tmod b.toInt)

/-- Rules R112, R113, R114, R115, R125, R126: ALU class: OR, AND and XOR. -/
def Obligations.Alu32Logic : Prop :=
  ArithK 32 .or32K 0x44 0 .base32 (fun a b r => ∀ k, k < 32 → r.getLsbD k = (a.getLsbD k || b.getLsbD k)) ∧
  ArithX 32 .or32X 0x4c 0 .base32 (fun a b r => ∀ k, k < 32 → r.getLsbD k = (a.getLsbD k || b.getLsbD k)) ∧
  ArithK 32 .and32K 0x54 0 .base32 (fun a b r => ∀ k, k < 32 → r.getLsbD k = (a.getLsbD k && b.getLsbD k)) ∧
  ArithX 32 .and32X 0x5c 0 .base32 (fun a b r => ∀ k, k < 32 → r.getLsbD k = (a.getLsbD k && b.getLsbD k)) ∧
  ArithK 32 .xor32K 0xa4 0 .base32 (fun a b r => ∀ k, k < 32 → r.getLsbD k = (a.getLsbD k ^^ b.getLsbD k)) ∧
  ArithX 32 .xor32X 0xac 0 .base32 (fun a b r => ∀ k, k < 32 → r.getLsbD k = (a.getLsbD k ^^ b.getLsbD k))

/-- Rules R116, R117, R118, R119, R131, R132, R127, R128, R129, R130: ALU class: LSH, RSH, ARSH, MOV and MOVSX. -/
def Obligations.Alu32ShiftMove : Prop :=
  ArithK 32 .lsh32K 0x64 0 .base32 (fun a b r => r.toNat = a.toNat * 2 ^ (b.toNat % 32) % 2 ^ 32) ∧
  ArithX 32 .lsh32X 0x6c 0 .base32 (fun a b r => r.toNat = a.toNat * 2 ^ (b.toNat % 32) % 2 ^ 32) ∧
  ArithK 32 .rsh32K 0x74 0 .base32 (fun a b r => r.toNat = a.toNat / 2 ^ (b.toNat % 32)) ∧
  ArithX 32 .rsh32X 0x7c 0 .base32 (fun a b r => r.toNat = a.toNat / 2 ^ (b.toNat % 32)) ∧
  ArithK 32 .arsh32K 0xc4 0 .base32 (fun a b r => r.toInt = a.toInt / 2 ^ (b.toNat % 32)) ∧
  ArithX 32 .arsh32X 0xcc 0 .base32 (fun a b r => r.toInt = a.toInt / 2 ^ (b.toNat % 32)) ∧
  MoveK 32 .mov32K 0xb4 .base32 (fun b r => r = b) ∧
  MoveX 32 .mov32X 0xbc 0 .base32 (fun b r => r = b) ∧
  MoveX 32 .movsx32_8 0xbc 8 .base32 (fun b r => r.toInt = (b.setWidth 8).toInt) ∧
  MoveX 32 .movsx32_16 0xbc 16 .base32 (fun b r => r.toInt = (b.setWidth 16).toInt)

/-- Rules R141, R142, R143, R144, R145, R146, R159: ALU64 class: ADD, SUB, MUL and NEG. -/
def Obligations.Alu64AddSubMulNeg : Prop :=
  ArithK 64 .add64K 0x07 0 .base64 (fun a b r => r.toNat = (a.toNat + b.toNat) % 2 ^ 64) ∧
  ArithX 64 .add64X 0x0f 0 .base64 (fun a b r => r.toNat = (a.toNat + b.toNat) % 2 ^ 64) ∧
  ArithK 64 .sub64K 0x17 0 .base64 (fun a b r => r.toNat = (2 ^ 64 + a.toNat - b.toNat) % 2 ^ 64) ∧
  ArithX 64 .sub64X 0x1f 0 .base64 (fun a b r => r.toNat = (2 ^ 64 + a.toNat - b.toNat) % 2 ^ 64) ∧
  ArithK 64 .mul64K 0x27 0 .divmul64 (fun a b r => r.toNat = a.toNat * b.toNat % 2 ^ 64) ∧
  ArithX 64 .mul64X 0x2f 0 .divmul64 (fun a b r => r.toNat = a.toNat * b.toNat % 2 ^ 64) ∧
  Unary 64 .neg64 0x87 0 .base64 (fun _ a r => r.toNat = (2 ^ 64 - a.toNat) % 2 ^ 64)

/-- Rules R147, R148, R149, R150, R160, R161, R162, R163: ALU64 class: DIV, SDIV, MOD and SMOD. -/
def Obligations.Alu64DivMod : Prop :=
  ArithK 64 .div64K 0x37 0 .divmul64 (fun a b r => r.toNat = if b.toNat = 0 then 0 else a.toNat / b.toNat) ∧
  ArithX 64 .div64X 0x3f 0 .divmul64 (fun a b r => r.toNat = if b.toNat = 0 then 0 else a.toNat / b.toNat) ∧
  ArithK 64 .sdiv64K 0x37 1 .divmul64 (fun a b r => if b.toInt = 0 then r.toNat = 0 else r = BitVec.ofInt 64 (a.toInt.tdiv b.toInt)) ∧
  ArithX 64 .sdiv64X 0x3f 1 .divmul64 (fun a b r => if b.toInt = 0 then r.toNat = 0 else r = BitVec.ofInt 64 (a.toInt.tdiv b.toInt)) ∧
  ArithK 64 .mod64K 0x97 0 .divmul64 (fun a b r => r.toNat = if b.toNat = 0 then a.toNat else a.toNat % b.toNat) ∧
  ArithX 64 .mod64X 0x9f 0 .divmul64 (fun a b r => r.toNat = if b.toNat = 0 then a.toNat else a.toNat % b.toNat) ∧
  ArithK 64 .smod64K 0x97 1 .divmul64 (fun a b r => r.toInt = if b.toInt = 0 then a.toInt else a.toInt.tmod b.toInt) ∧
  ArithX 64 .smod64X 0x9f 1 .divmul64 (fun a b r => r.toInt = if b.toInt = 0 then a.toInt else a.toInt.tmod b.toInt)

/-- Rules R151, R152, R153, R154, R164, R165: ALU64 class: OR, AND and XOR. -/
def Obligations.Alu64Logic : Prop :=
  ArithK 64 .or64K 0x47 0 .base64 (fun a b r => ∀ k, k < 64 → r.getLsbD k = (a.getLsbD k || b.getLsbD k)) ∧
  ArithX 64 .or64X 0x4f 0 .base64 (fun a b r => ∀ k, k < 64 → r.getLsbD k = (a.getLsbD k || b.getLsbD k)) ∧
  ArithK 64 .and64K 0x57 0 .base64 (fun a b r => ∀ k, k < 64 → r.getLsbD k = (a.getLsbD k && b.getLsbD k)) ∧
  ArithX 64 .and64X 0x5f 0 .base64 (fun a b r => ∀ k, k < 64 → r.getLsbD k = (a.getLsbD k && b.getLsbD k)) ∧
  ArithK 64 .xor64K 0xa7 0 .base64 (fun a b r => ∀ k, k < 64 → r.getLsbD k = (a.getLsbD k ^^ b.getLsbD k)) ∧
  ArithX 64 .xor64X 0xaf 0 .base64 (fun a b r => ∀ k, k < 64 → r.getLsbD k = (a.getLsbD k ^^ b.getLsbD k))

/-- Rules R155, R156, R157, R158, R171, R172, R166, R167, R168, R169, R170: ALU64 class: LSH, RSH, ARSH, MOV and
MOVSX. -/
def Obligations.Alu64ShiftMove : Prop :=
  ArithK 64 .lsh64K 0x67 0 .base64 (fun a b r => r.toNat = a.toNat * 2 ^ (b.toNat % 64) % 2 ^ 64) ∧
  ArithX 64 .lsh64X 0x6f 0 .base64 (fun a b r => r.toNat = a.toNat * 2 ^ (b.toNat % 64) % 2 ^ 64) ∧
  ArithK 64 .rsh64K 0x77 0 .base64 (fun a b r => r.toNat = a.toNat / 2 ^ (b.toNat % 64)) ∧
  ArithX 64 .rsh64X 0x7f 0 .base64 (fun a b r => r.toNat = a.toNat / 2 ^ (b.toNat % 64)) ∧
  ArithK 64 .arsh64K 0xc7 0 .base64 (fun a b r => r.toInt = a.toInt / 2 ^ (b.toNat % 64)) ∧
  ArithX 64 .arsh64X 0xcf 0 .base64 (fun a b r => r.toInt = a.toInt / 2 ^ (b.toNat % 64)) ∧
  MoveK 64 .mov64K 0xb7 .base64 (fun b r => r = b) ∧
  MoveX 64 .mov64X 0xbf 0 .base64 (fun b r => r = b) ∧
  MoveX 64 .movsx64_8 0xbf 8 .base64 (fun b r => r.toInt = (b.setWidth 8).toInt) ∧
  MoveX 64 .movsx64_16 0xbf 16 .base64 (fun b r => r.toInt = (b.setWidth 16).toInt) ∧
  MoveX 64 .movsx64_32 0xbf 32 .base64 (fun b r => r.toInt = (b.setWidth 32).toInt)

/-- Rules R181, R182, R183, R184, R185, R186, R187, R188, R189: The nine byte swaps. -/
def Obligations.ByteSwaps : Prop :=
  Unary 16 .le16 0xd4 16 .base32 (fun e v r => match e with | .little => r = v | .big => Reversed v r) ∧
  Unary 32 .le32 0xd4 32 .base32 (fun e v r => match e with | .little => r = v | .big => Reversed v r) ∧
  Unary 64 .le64 0xd4 64 .base64 (fun e v r => match e with | .little => r = v | .big => Reversed v r) ∧
  Unary 16 .be16 0xdc 16 .base32 (fun e v r => match e with | .little => Reversed v r | .big => r = v) ∧
  Unary 32 .be32 0xdc 32 .base32 (fun e v r => match e with | .little => Reversed v r | .big => r = v) ∧
  Unary 64 .be64 0xdc 64 .base64 (fun e v r => match e with | .little => Reversed v r | .big => r = v) ∧
  Unary 16 .bswap16 0xd7 16 .base32 (fun _ v r => Reversed v r) ∧
  Unary 32 .bswap32 0xd7 32 .base32 (fun _ v r => Reversed v r) ∧
  Unary 64 .bswap64 0xd7 64 .base64 (fun _ v r => Reversed v r)

/-- Rules R207, R208, R209, R210, R223, R224, R225, R226, R219, R220, R221, R222: Conditional jumps JEQ, JNE, JSET,
all forms. -/
def Obligations.JumpsOnEquality : Prop :=
  JumpK 64 .jeq64K 0x15 .base64 (fun a b => a = b) ∧
  JumpX 64 .jeq64X 0x1d .base64 (fun a b => a = b) ∧
  JumpK 32 .jeq32K 0x16 .base32 (fun a b => a = b) ∧
  JumpX 32 .jeq32X 0x1e .base32 (fun a b => a = b) ∧
  JumpK 64 .jne64K 0x55 .base64 (fun a b => a ≠ b) ∧
  JumpX 64 .jne64X 0x5d .base64 (fun a b => a ≠ b) ∧
  JumpK 32 .jne32K 0x56 .base32 (fun a b => a ≠ b) ∧
  JumpX 32 .jne32X 0x5e .base32 (fun a b => a ≠ b) ∧
  JumpK 64 .jset64K 0x45 .base64 (fun a b => ∃ k, a.getLsbD k = true ∧ b.getLsbD k = true) ∧
  JumpX 64 .jset64X 0x4d .base64 (fun a b => ∃ k, a.getLsbD k = true ∧ b.getLsbD k = true) ∧
  JumpK 32 .jset32K 0x46 .base32 (fun a b => ∃ k, a.getLsbD k = true ∧ b.getLsbD k = true) ∧
  JumpX 32 .jset32X 0x4e .base32 (fun a b => ∃ k, a.getLsbD k = true ∧ b.getLsbD k = true)

/-- Rules R211, R212, R213, R214, R215, R216, R217, R218: Conditional jumps JGT, JGE, all forms. -/
def Obligations.JumpsUnsignedGreater : Prop :=
  JumpK 64 .jgt64K 0x25 .base64 (fun a b => a.toNat > b.toNat) ∧
  JumpX 64 .jgt64X 0x2d .base64 (fun a b => a.toNat > b.toNat) ∧
  JumpK 32 .jgt32K 0x26 .base32 (fun a b => a.toNat > b.toNat) ∧
  JumpX 32 .jgt32X 0x2e .base32 (fun a b => a.toNat > b.toNat) ∧
  JumpK 64 .jge64K 0x35 .base64 (fun a b => a.toNat ≥ b.toNat) ∧
  JumpX 64 .jge64X 0x3d .base64 (fun a b => a.toNat ≥ b.toNat) ∧
  JumpK 32 .jge32K 0x36 .base32 (fun a b => a.toNat ≥ b.toNat) ∧
  JumpX 32 .jge32X 0x3e .base32 (fun a b => a.toNat ≥ b.toNat)

/-- Rules R235, R236, R237, R238, R239, R240, R241, R242: Conditional jumps JLT, JLE, all forms. -/
def Obligations.JumpsUnsignedLess : Prop :=
  JumpK 64 .jlt64K 0xa5 .base64 (fun a b => a.toNat < b.toNat) ∧
  JumpX 64 .jlt64X 0xad .base64 (fun a b => a.toNat < b.toNat) ∧
  JumpK 32 .jlt32K 0xa6 .base32 (fun a b => a.toNat < b.toNat) ∧
  JumpX 32 .jlt32X 0xae .base32 (fun a b => a.toNat < b.toNat) ∧
  JumpK 64 .jle64K 0xb5 .base64 (fun a b => a.toNat ≤ b.toNat) ∧
  JumpX 64 .jle64X 0xbd .base64 (fun a b => a.toNat ≤ b.toNat) ∧
  JumpK 32 .jle32K 0xb6 .base32 (fun a b => a.toNat ≤ b.toNat) ∧
  JumpX 32 .jle32X 0xbe .base32 (fun a b => a.toNat ≤ b.toNat)

/-- Rules R227, R228, R229, R230, R231, R232, R233, R234: Conditional jumps JSGT, JSGE, all forms. -/
def Obligations.JumpsSignedGreater : Prop :=
  JumpK 64 .jsgt64K 0x65 .base64 (fun a b => a.toInt > b.toInt) ∧
  JumpX 64 .jsgt64X 0x6d .base64 (fun a b => a.toInt > b.toInt) ∧
  JumpK 32 .jsgt32K 0x66 .base32 (fun a b => a.toInt > b.toInt) ∧
  JumpX 32 .jsgt32X 0x6e .base32 (fun a b => a.toInt > b.toInt) ∧
  JumpK 64 .jsge64K 0x75 .base64 (fun a b => a.toInt ≥ b.toInt) ∧
  JumpX 64 .jsge64X 0x7d .base64 (fun a b => a.toInt ≥ b.toInt) ∧
  JumpK 32 .jsge32K 0x76 .base32 (fun a b => a.toInt ≥ b.toInt) ∧
  JumpX 32 .jsge32X 0x7e .base32 (fun a b => a.toInt ≥ b.toInt)

/-- Rules R243, R244, R245, R246, R247, R248, R249, R250: Conditional jumps JSLT, JSLE, all forms. -/
def Obligations.JumpsSignedLess : Prop :=
  JumpK 64 .jslt64K 0xc5 .base64 (fun a b => a.toInt < b.toInt) ∧
  JumpX 64 .jslt64X 0xcd .base64 (fun a b => a.toInt < b.toInt) ∧
  JumpK 32 .jslt32K 0xc6 .base32 (fun a b => a.toInt < b.toInt) ∧
  JumpX 32 .jslt32X 0xce .base32 (fun a b => a.toInt < b.toInt) ∧
  JumpK 64 .jsle64K 0xd5 .base64 (fun a b => a.toInt ≤ b.toInt) ∧
  JumpX 64 .jsle64X 0xdd .base64 (fun a b => a.toInt ≤ b.toInt) ∧
  JumpK 32 .jsle32K 0xd6 .base32 (fun a b => a.toInt ≤ b.toInt) ∧
  JumpX 32 .jsle32X 0xde .base32 (fun a b => a.toInt ≤ b.toInt)

/-- Rules R205, R206: JA and JA32. -/
def Obligations.UnconditionalJumps : Prop :=
  (∀ offset, Encoded (.ja offset) ⟨0x05, 0, 0, offset, 0⟩ .base32 ∧
    BadTargetFaults (.ja offset) ∧
    ∀ s : State, exec (.ja offset) s = .next (Jumped s (s.pc + 1 + offset.toInt))) ∧
  ∀ imm, Encoded (.ja32 imm) ⟨0x06, 0, 0, 0, imm⟩ .base32 ∧
    BadTargetFaults (.ja32 imm) ∧
    ∀ s : State, exec (.ja32 imm) s = .next (Jumped s (s.pc + 1 + imm.toInt))

/-- Rule R252: CALL_LOCAL. Under a CALL_ABI that is not bare the registers and what the frame saves are left open
here; its form is the MODEL'S CHOICE (log entry 9). -/
def Obligations.LocalCalls : Prop :=
  ∀ imm, Encoded (.callLocal imm) ⟨0x85, 0, 1, 0, imm⟩ .base32 ∧
    BadTargetFaults (.callLocal imm) ∧ ∀ s : State,
    ((∃ d, s.params.maxCallDepth = some d ∧ s.cs.length ≥ d) →
      exec (.callLocal imm) s = .next (Faulted s (.callDepth s.pc))) ∧
    ((∀ d, s.params.maxCallDepth = some d → s.cs.length < d) →
      ∃ regs saved,
        exec (.callLocal imm) s = .next { s with
          regs := regs, pc := s.pc + 1 + imm.toInt, cs := ⟨s.pc + 1, saved⟩ :: s.cs, ticks := s.ticks + 1 } ∧
        (s.params.callAbi = CallAbi.bare → regs = s.regs ∧ saved = []))

/-- Rule R254: EXIT. Under a CALL_ABI that is not bare, or with registers in the frame, the registers are left open
here; the form of a CALL_ABI is the MODEL'S CHOICE (log entry 9). -/
def Obligations.ExitInstruction : Prop :=
  Encoded .exit ⟨0x95, 0, 0, 0, 0⟩ .base32 ∧ ∀ s : State,
    (s.cs = [] → exec .exit s = .next { s with status := .exited }) ∧
    ∀ f rest, s.cs = f :: rest → ∃ regs,
      exec .exit s = .next { s with regs := regs, pc := f.ret, cs := rest, ticks := s.ticks + 1 } ∧
      (s.params.callAbi = CallAbi.bare → f.saved = [] → regs = s.regs)

/-- Rules R25, R252, R254: EXIT undoes CALL_LOCAL (the registers it restores: log entry 9). The last clause, that
the registers a CALL_ABI lists are saved by the call and restored by the return, is the MODEL'S CHOICE of the form
of a CALL_ABI (log entry 9). -/
def Obligations.ExitReturnsToTheCaller : Prop :=
  ∀ (s t u w : State) (imm : Word32), exec (.callLocal imm) s = .next t → t.status = .running → s.status = .running →
    u.params = s.params → u.cs = t.cs → exec .exit u = .next w →
    w.pc = s.pc + 1 ∧ w.cs = s.cs ∧ w.mem = u.mem ∧
      (s.params.callAbi.onReturn = [] → ∀ r : Reg,
        w.regs[r] = if r ∈ s.params.callAbi.saved then s.regs[r] else u.regs[r])

/-- Rules R251, R253, R406: CALL_HELPER and CALL_BTF (helper relations as data: log entry 8). The language of the
relations is the MODEL'S CHOICE (log entry 8). -/
def Obligations.HelperCalls : Prop :=
  ∀ imm, Encoded (.callHelper imm) ⟨0x85, 0, 0, 0, imm⟩ .base32 ∧ Encoded (.callBtf imm) ⟨0x85, 0, 2, 0, imm⟩ .base32 ∧
    ∀ s : State, HelperCall (.callHelper imm) imm s (.helper imm) s.params.helpers ∧
      HelperCall (.callBtf imm) imm s (.btfHelper imm) s.params.btfHelpers

/-- Rules R273, R274, R275, R276, R285, R286, R287: The regular and sign-extension loads. -/
def Obligations.Loads : Prop :=
  Load 4 .ldxw 0x61 .base32 (fun t v => v.toNat = t) ∧
  Load 2 .ldxh 0x69 .base32 (fun t v => v.toNat = t) ∧
  Load 1 .ldxb 0x71 .base32 (fun t v => v.toNat = t) ∧
  Load 8 .ldxdw 0x79 .base64 (fun t v => v.toNat = t) ∧
  Load 4 .ldxsw 0x81 .base32 (fun t v => v.toInt = (BitVec.ofNat 32 t).toInt) ∧
  Load 2 .ldxsh 0x89 .base32 (fun t v => v.toInt = (BitVec.ofNat 16 t).toInt) ∧
  Load 1 .ldxsb 0x91 .base32 (fun t v => v.toInt = (BitVec.ofNat 8 t).toInt)

/-- Rules R277, R278, R279, R280, R281, R282, R283, R284: The immediate and register stores. -/
def Obligations.Stores : Prop :=
  StoreImm 4 .stw 0x62 .base32 ∧
  StoreImm 2 .sth 0x6a .base32 ∧
  StoreImm 1 .stb 0x72 .base32 ∧
  StoreImm 8 .stdw 0x7a .base64 ∧
  StoreReg 4 .stxw 0x63 .base32 ∧
  StoreReg 2 .stxh 0x6b .base32 ∧
  StoreReg 1 .stxb 0x73 .base32 ∧
  StoreReg 8 .stxdw 0x7b .base64

/-- Rules R43, R45, R420: Misaligned accesses under MISALIGNED = perform with another agent. The schedule of the
environment is the MODEL'S CHOICE of form (log entries 10, 12). -/
def Obligations.TornAccesses : Prop :=
  TornLoad 2 .ldxh id ∧ TornLoad 4 .ldxw id ∧ TornLoad 8 .ldxdw id ∧
  TornLoad 2 .ldxsh (fun v => (v.setWidth 16).signExtend 64) ∧
  TornLoad 4 .ldxsw (fun v => (v.setWidth 32).signExtend 64) ∧
  TornStoreReg 2 .stxh ∧ TornStoreReg 4 .stxw ∧ TornStoreReg 8 .stxdw ∧
  TornStoreImm 2 .sth ∧ TornStoreImm 4 .stw ∧ TornStoreImm 8 .stdw

/-- Rules R303, R304, R305, R306, R313, R314, R315, R316: Atomic ADD, OR, AND and XOR without FETCH. -/
def Obligations.AtomicsWithoutFetch : Prop :=
  AtomicOp 4 .atomicAdd32 0xc3 0x00 .atomic32 (fun o v => (o + v) % 2 ^ 32) ∧
  AtomicOp 4 .atomicOr32 0xc3 0x40 .atomic32 (fun o v => o ||| v) ∧
  AtomicOp 4 .atomicAnd32 0xc3 0x50 .atomic32 (fun o v => o &&& v) ∧
  AtomicOp 4 .atomicXor32 0xc3 0xa0 .atomic32 (fun o v => o ^^^ v) ∧
  AtomicOp 8 .atomicAdd64 0xdb 0x00 .atomic64 (fun o v => (o + v) % 2 ^ 64) ∧
  AtomicOp 8 .atomicOr64 0xdb 0x40 .atomic64 (fun o v => o ||| v) ∧
  AtomicOp 8 .atomicAnd64 0xdb 0x50 .atomic64 (fun o v => o &&& v) ∧
  AtomicOp 8 .atomicXor64 0xdb 0xa0 .atomic64 (fun o v => o ^^^ v)

/-- Rules R307, R308, R309, R310, R311, R317, R318, R319, R320, R321: Atomic FETCH_ADD, FETCH_OR, FETCH_AND,
FETCH_XOR and XCHG. -/
def Obligations.AtomicsWithFetch : Prop :=
  AtomicFetch 4 .atomicFetchAdd32 0xc3 0x01 .atomic32 (fun o v => (o + v) % 2 ^ 32) ∧
  AtomicFetch 4 .atomicFetchOr32 0xc3 0x41 .atomic32 (fun o v => o ||| v) ∧
  AtomicFetch 4 .atomicFetchAnd32 0xc3 0x51 .atomic32 (fun o v => o &&& v) ∧
  AtomicFetch 4 .atomicFetchXor32 0xc3 0xa1 .atomic32 (fun o v => o ^^^ v) ∧
  AtomicFetch 4 .atomicXchg32 0xc3 0xe1 .atomic32 (fun _ v => v) ∧
  AtomicFetch 8 .atomicFetchAdd64 0xdb 0x01 .atomic64 (fun o v => (o + v) % 2 ^ 64) ∧
  AtomicFetch 8 .atomicFetchOr64 0xdb 0x41 .atomic64 (fun o v => o ||| v) ∧
  AtomicFetch 8 .atomicFetchAnd64 0xdb 0x51 .atomic64 (fun o v => o &&& v) ∧
  AtomicFetch 8 .atomicFetchXor64 0xdb 0xa1 .atomic64 (fun o v => o ^^^ v) ∧
  AtomicFetch 8 .atomicXchg64 0xdb 0xe1 .atomic64 (fun _ v => v)

/-- Rules R312, R322: CMPXCHG. -/
def Obligations.AtomicCompareExchange : Prop :=
  AtomicCmpxchg 4 .atomicCmpxchg32 0xc3 0xf1 .atomic32 ∧
  AtomicCmpxchg 8 .atomicCmpxchg64 0xdb 0xf1 .atomic64

/-- Rules R331, R332, R333, R334, R335, R336, R337: The seven 64-bit immediate instructions. -/
def Obligations.WideImmediateLoads : Prop :=
  (∀ dst imm n, EncodedWide (.lddw dst imm n) ⟨0x18, regBits dst, 0, 0, imm⟩ n .base64 ∧ ∀ s : State,
    ∃ v : Word, v.toNat = n.toNat * 2 ^ 32 + imm.toNat ∧ exec (.lddw dst imm n) s = .next (Wrote s dst v 2)) ∧
  (∀ dst imm, EncodedWide (.ldMapFd dst imm) ⟨0x18, regBits dst, 1, 0, imm⟩ 0 .base64 ∧
    AddressLoad (.ldMapFd dst imm) dst imm .noMap fun s => s.params.mapByFd.lookup imm) ∧
  (∀ dst imm n, EncodedWide (.ldMapValFd dst imm n) ⟨0x18, regBits dst, 2, 0, imm⟩ n .base64 ∧
    AddressLoad (.ldMapValFd dst imm n) dst imm .noMapValue fun s =>
      ((s.params.mapByFd.lookup imm).bind fun m => s.params.mapVal.lookup m).map (· + n.signExtend 64)) ∧
  (∀ dst imm, EncodedWide (.ldVarAddr dst imm) ⟨0x18, regBits dst, 3, 0, imm⟩ 0 .base64 ∧
    AddressLoad (.ldVarAddr dst imm) dst imm .noVariable fun s => s.params.varAddr.lookup imm) ∧
  (∀ dst imm, EncodedWide (.ldCodeAddr dst imm) ⟨0x18, regBits dst, 4, 0, imm⟩ 0 .base64 ∧
    AddressLoad (.ldCodeAddr dst imm) dst imm .noCodeAddress fun s =>
      s.params.codeAddr.lookup (s.pc, imm.toInt)) ∧
  (∀ dst imm, EncodedWide (.ldMapIdx dst imm) ⟨0x18, regBits dst, 5, 0, imm⟩ 0 .base64 ∧
    AddressLoad (.ldMapIdx dst imm) dst imm .noMap fun s => s.params.mapByIdx.lookup imm) ∧
  ∀ dst imm n, EncodedWide (.ldMapValIdx dst imm n) ⟨0x18, regBits dst, 6, 0, imm⟩ n .base64 ∧
    AddressLoad (.ldMapValIdx dst imm n) dst imm .noMapValue fun s =>
      ((s.params.mapByIdx.lookup imm).bind fun m => s.params.mapVal.lookup m).map (· + n.signExtend 64)

/-- Rules R338, R73, R74: The second slot of a wide instruction is never executed (its term: log entry 15). That its
term, which no step ever executes, raises IllegalInstruction(pc, Reserved) is the MODEL'S CHOICE (log entry 15). -/
def Obligations.SecondSlotIsNeverAnInstruction : Prop :=
  (∀ n, encode (.imm64SecondSlot n) = [⟨0, 0, 0, 0, n⟩] ∧ (Instr.imm64SecondSlot n).group = .base64 ∧
    decodeSecondSlot ⟨0, 0, 0, 0, n⟩ = some (.imm64SecondSlot n)) ∧
  (∀ f next n, decodeFields f next ≠ .ok (.imm64SecondSlot n)) ∧
  (∀ (f : Fields) next, f.opcode = 0 → decodeFields f next = .error .reserved) ∧
  (∀ (s : State) (t : Nat) (w : Slot), Sweep s.params.program t → s.params.program[t]? = some w → w.b0 = 0x18 →
    s.pc = t + 1 → s.fetch = .error (.badPc s.pc)) ∧
  ∀ (s : State) n, exec (.imm64SecondSlot n) s = .next (Faulted s (.illegalInstruction s.pc .reserved))

/-- Rules R351, R352, R353, R354, R355, R356: The legacy packet loads raise UnsupportedGroup(pc, packet). -/
def Obligations.PacketLoadsAreUnsupported : Prop :=
  (∀ imm, Encoded (.ldabsw imm) ⟨0x20, 0, 0, 0, imm⟩ .packet ∧
    ∀ s : State, exec (.ldabsw imm) s = .next (Faulted s (.unsupportedGroup s.pc .packet))) ∧
  (∀ imm, Encoded (.ldabsh imm) ⟨0x28, 0, 0, 0, imm⟩ .packet ∧
    ∀ s : State, exec (.ldabsh imm) s = .next (Faulted s (.unsupportedGroup s.pc .packet))) ∧
  (∀ imm, Encoded (.ldabsb imm) ⟨0x30, 0, 0, 0, imm⟩ .packet ∧
    ∀ s : State, exec (.ldabsb imm) s = .next (Faulted s (.unsupportedGroup s.pc .packet))) ∧
  (∀ src imm, Encoded (.ldindw src imm) ⟨0x40, 0, regBits src, 0, imm⟩ .packet ∧
    ∀ s : State, exec (.ldindw src imm) s = .next (Faulted s (.unsupportedGroup s.pc .packet))) ∧
  (∀ src imm, Encoded (.ldindh src imm) ⟨0x48, 0, regBits src, 0, imm⟩ .packet ∧
    ∀ s : State, exec (.ldindh src imm) s = .next (Faulted s (.unsupportedGroup s.pc .packet))) ∧
  (∀ src imm, Encoded (.ldindb src imm) ⟨0x50, 0, regBits src, 0, imm⟩ .packet ∧
    ∀ s : State, exec (.ldindb src imm) s = .next (Faulted s (.unsupportedGroup s.pc .packet)))

/-- Rules R408, R409: Registers are checked in the order destination, source, R0, before any other effect. -/
def Obligations.ReadsCheckedInOrder : Prop :=
  (∀ (i : Instr) (s : State) (r : Reg) pre post, reads i = pre ++ r :: post → (∀ q ∈ pre, s.regs[q] ≠ none) →
      s.regs[r] = none → exec i s = .next (Faulted s (.unwrittenRegister r))) ∧
    (∀ (i : Instr) (s t : State), s.status = .running → (∀ q ∈ reads i, s.regs[q] ≠ none) → exec i s = .next t →
      ∀ r, t.status ≠ .faulted (.unwrittenRegister r)) ∧
    (∀ (i : Instr) (s t : State), exec i s = .next t → (∀ tr, t.status ≠ .faulted tr) →
      ∀ q ∈ reads i, s.regs[q] ≠ none) ∧
    ∀ (i : Instr) (s t : State), NoHelper i → s.params.callAbi = CallAbi.bare → (∀ f ∈ s.cs, f.saved = []) →
      (∀ r : Reg, s.regs[r] ≠ none) → exec i s = .next t → ∀ r : Reg, t.regs[r] ≠ none

/-- Rules R251, R253: CALL_HELPER and CALL_BTF complete (helper relations as data: log entry 8). The language of the
relations is the MODEL'S CHOICE (log entry 8). -/
def Obligations.HelperCallsComplete : Prop :=
  ∀ (imm : Word32) (s : State), HelperCompletes (.callHelper imm) imm s (.helper imm) s.params.helpers ∧
    HelperCompletes (.callBtf imm) imm s (.btfHelper imm) s.params.btfHelpers ∧
    (∀ a b, s.params.helpers.lookup imm = some (.setReg 0 (.op .add (.reg 1) (.reg 2))) →
      s.regs[(1 : Reg)] = some a → s.regs[(2 : Reg)] = some b →
      exec (.callHelper imm) s = .next (Wrote s 0 (a + b) 1)) ∧
    (∀ a b, s.params.btfHelpers.lookup imm = some (.store 4 (.reg 1) (.reg 2)) →
      s.regs[(1 : Reg)] = some a → s.regs[(2 : Reg)] = some b → ∃ m, SameOutside s.mem m a.toNat 4 ∧
        (a.toNat + 4 ≤ 2 ^ 64 → Holds s.params.hostEndian m a.toNat 4 b) ∧
        exec (.callBtf imm) s = .next (Stored s m)) ∧
    ∀ u v, s.params.helpers.lookup imm = some (.either (.setReg 0 (.const u)) (.setReg 0 (.const v))) →
      exec (.callHelper imm) s = .next (Wrote s 0 u 1) ∨ exec (.callHelper imm) s = .next (Wrote s 0 v 1)

/-- Rules R48, R420: The environment acts on memory alone, before decode, without end (its form: log entry 10). The
form of the environment is the MODEL'S CHOICE (log entry 10). -/
def Obligations.EnvironmentActsFirst : Prop :=
  (∀ (s : State) u, s.params.environment.turns[s.ticks]? = some u → s.turn = some u) ∧
  (∀ (s : State) k, s.ticks = s.params.environment.turns.length + k →
    (s.params.environment.rest = .silent → s.turn = none) ∧
    (∀ us, s.params.environment.rest = .cycle us → s.turn = us[k % us.length]?) ∧
    (s.params.environment.rest = .free → s.turn = some (Config.freeTurn s.ticks))) ∧
  (∀ s : State, s.turn = none → AfterEnvironment s = s) ∧
  (∀ s : State, s.params.environment = Environment.alone → AfterEnvironment s = s) ∧
  (∀ (s : State) u, s.turn = some u → ∃ m, AfterEnvironment s = { s with mem := m } ∧
    ((∀ y, ¬ TurnLeaves s u y) → m = s.mem.writeCells u.before) ∧
    ((∃ y, TurnLeaves s u y) → ∃ y, TurnLeaves s u y ∧ m = y.mem)) ∧
  ∀ s : State, s.status = .running → AdmissibleGroups s.params.groups →
    step s = match s.fetch with
      | .ok i => exec i (AfterEnvironment s)
      | .error tr => .next (Faulted (AfterEnvironment s) tr)
end

