-- ==== Sys2Proof/Laws/Encoding.lean ====
section
/-! SUPPORT. Fields, slots and register numbers: each encoding is undone by its decoding. -/

namespace Sys2Proof

/-- The register number of a register's field is the register (rule R78). -/
@[simp] theorem regOf_regBits (r : Reg) : regOf (regBits r) = some r := by revert r; decide

/-- A field that names a register is that register's field (rule R78). -/
theorem regBits_of_regOf (n : BitVec 4) (r : Reg) (h : regOf n = some r) : regBits r = n := by
  revert r n; decide

theorem regOf_eq_none (n : BitVec 4) : regOf n = none ↔ 10 < n.toNat := by revert n; decide

/-- Two adjacent slices of a value are one slice of it. -/
theorem extract_append {w : Nat} (v : BitVec w) (k m n : Nat) :
    v.extractLsb' (k + n) m ++ v.extractLsb' k n = v.extractLsb' k (m + n) := by
  apply BitVec.eq_of_getLsbD_eq
  intro i hi
  simp only [BitVec.getLsbD_append, BitVec.getLsbD_extractLsb']
  by_cases h : i < n
  · have : i < m + n := by omega
    simp [h, this]
  · have h1 : i - n < m := by omega
    have h2 : k + n + (i - n) = k + i := by omega
    simp [h, h1, hi, h2]

/-- Two nibbles side by side are each read back. -/
theorem nibble_append : ∀ a b : BitVec 4, (a ++ b).extractLsb' 0 4 = b ∧ (a ++ b).extractLsb' 4 4 = a := by decide

/-- The bytes of a 16-bit field put together are the field. -/
theorem bytes16 (v : BitVec 16) : v.extractLsb' 8 8 ++ v.extractLsb' 0 8 = v :=
  (extract_append v 0 8 8).trans BitVec.extractLsb'_eq_self

/-- The bytes of a 32-bit field put together are the field. -/
theorem bytes32 (v : BitVec 32) :
    v.extractLsb' 24 8 ++ v.extractLsb' 16 8 ++ v.extractLsb' 8 8 ++ v.extractLsb' 0 8 = v := by
  have h1 := extract_append v 16 8 8
  have h2 := extract_append v 8 16 8
  have h3 := extract_append v 0 24 8
  simp only [Nat.reduceAdd, Nat.zero_add] at h1 h2 h3
  rw [h1, h2, h3, BitVec.extractLsb'_eq_self]

/-- The fields of the slot that holds some fields are those fields, in either byte order (rule R62). -/
@[simp] theorem Fields.fields_toSlot (e : Endian) (f : Fields) : (f.toSlot e).fields e = f := by
  cases e <;>
    simp only [Fields.toSlot, Slot.fields, bytes16, bytes32, (nibble_append f.src f.dst).1,
      (nibble_append f.src f.dst).2, (nibble_append f.dst f.src).1, (nibble_append f.dst f.src).2]

/-- Decoding laid-out slots is decoding their fields. -/
theorem decodeProgram_toSlot (e : Endian) (f : Fields) (rest : List Fields) (more : List Slot) :
    decodeProgram e ((f :: rest).map (Fields.toSlot e) ++ more)
      = decodeFields f ((rest.map (Fields.toSlot e) ++ more).head?.map (Slot.fields e)) := by
  simp [decodeProgram, decodeSlots]

/-- All that decoding a row with one register field can accept (rule R78). -/
theorem oneReg_ok (n : BitVec 4) (mk : Reg → Instr) (i : Instr) :
    oneReg n mk = .ok i ↔ ∃ r, n = regBits r ∧ mk r = i := by
  unfold oneReg
  constructor
  · intro h
    split at h
    · rename_i r hr
      cases h
      exact ⟨r, (regBits_of_regOf _ _ hr).symm, rfl⟩
    · cases h
  · rintro ⟨r, rfl, rfl⟩
    simp

/-- All that decoding a row with two register fields can accept (rule R78). -/
theorem twoRegs_ok (d s : BitVec 4) (mk : Reg → Reg → Instr) (i : Instr) :
    twoRegs d s mk = .ok i ↔ ∃ r q, d = regBits r ∧ s = regBits q ∧ mk r q = i := by
  unfold twoRegs
  constructor
  · intro h
    split at h
    · rename_i r q hr hq
      cases h
      exact ⟨r, q, (regBits_of_regOf _ _ hr).symm, (regBits_of_regOf _ _ hq).symm, rfl⟩
    · cases h
  · rintro ⟨r, q, rfl, rfl, rfl⟩
    simp

/-- A fixed field that differs ends decoding with Reserved (rule R73 step 4). -/
theorem fixed_ok (ok : Bool) (k : Decoded) (i : Instr) : fixed ok k = .ok i ↔ ok = true ∧ k = .ok i := by
  cases ok <;> simp [fixed]

end Sys2Proof
end

