-- ==== Sys2Proof/Laws/Memory.lean ====
section
/-! SUPPORT. Memory: a read after a write, the bytes a write leaves alone, and that every operation keeps the canonical
form. -/

namespace Sys2Proof.Machine

/-! One byte -/

@[simp] theorem Memory.read_nil (a : Nat) : Memory.read [] a = Memory.unlisted := rfl

theorem Memory.read_cons (c : Host.Cell) (m : Memory) (a : Nat) :
    Memory.read (c :: m) a = if c.1 = a then c.2 else Memory.read m a := rfl

theorem Memory.read_erase (m : Memory) (a b : Nat) :
    (m.erase a).read b = if b = a then Memory.unlisted else m.read b := by
  induction m with
  | nil => simp [Memory.erase]
  | cons c m ih =>
    simp only [Memory.erase] at ih
    by_cases h : c.1 = a
    · by_cases hb : b = a
      · subst hb; simpa [Memory.erase, h] using ih
      · simp [Memory.erase, h, ih, hb, Memory.read_cons, Ne.symm hb]
    · by_cases hb : c.1 = b
      · have : b ≠ a := fun h' => h (hb.trans h')
        simp [Memory.erase, Memory.read_cons, hb, this]
      · simp [Memory.erase, h, ih, Memory.read_cons, hb]

theorem Memory.read_insert (m : Memory) (a b : Nat) (v : Byte) (h : ∀ c ∈ m, c.1 ≠ a) :
    (m.insert a v).read b = if b = a then v else m.read b := by
  induction m with
  | nil => simp [Memory.insert, Memory.read_cons, eq_comm]
  | cons c m ih =>
    have hc := h c (by simp)
    have hm := ih fun d hd => h d (by simp [hd])
    simp only [Memory.insert]
    split
    · simp only [Memory.read_cons, eq_comm]
    · simp only [Memory.read_cons, hm]
      by_cases hb : c.1 = b
      · have : b ≠ a := fun h' => hc (hb.trans h')
        simp [hb, this]
      · simp [hb]

theorem Memory.erase_absent (m : Memory) (a : Nat) : ∀ c ∈ m.erase a, c.1 ≠ a := by
  intro c hc; simp [Memory.erase] at hc; exact hc.2

/-- Reading any byte after one byte write. -/
theorem Memory.read_write (m : Memory) (a b : Nat) (v : Byte) :
    (m.write a v).read b = if b = a ∧ a < 2 ^ 64 then v else m.read b := by
  unfold Memory.write
  by_cases ha : a < 2 ^ 64
  · rw [if_pos ha]
    by_cases hv : v = Memory.unlisted
    · rw [if_pos hv, Memory.read_erase]
      by_cases hb : b = a
      · rw [if_pos hb, if_pos ⟨hb, ha⟩, hv]
      · rw [if_neg hb, if_neg (fun h => hb h.1)]
    · rw [if_neg hv, Memory.read_insert _ _ _ _ (Memory.erase_absent m a), Memory.read_erase]
      by_cases hb : b = a
      · rw [if_pos hb, if_pos ⟨hb, ha⟩]
      · rw [if_neg hb, if_neg hb, if_neg (fun h => hb h.1)]
  · rw [if_neg ha, if_neg (fun h => ha h.2)]

theorem Memory.read_write_self (m : Memory) (a : Nat) (v : Byte) (h : a < 2 ^ 64) : (m.write a v).read a = v := by
  rw [Memory.read_write, if_pos ⟨rfl, h⟩]

theorem Memory.read_write_other (m : Memory) (a b : Nat) (v : Byte) (h : b ≠ a) : (m.write a v).read b = m.read b := by
  simp [Memory.read_write, h]

/-! The canonical form -/

theorem Memory.wf_nil : Memory.wf [] := by simp [Memory.wf]

theorem Memory.wf_erase (m : Memory) (a : Nat) (h : m.wf) : (m.erase a).wf :=
  ⟨h.1.filter _, fun c hc => h.2 c ((List.mem_filter.1 hc).1)⟩

theorem Memory.mem_insert (m : Memory) (a : Nat) (v : Byte) (c : Host.Cell) :
    c ∈ m.insert a v ↔ c = (a, v) ∨ c ∈ m := by
  induction m with
  | nil => simp [Memory.insert]
  | cons d m ih =>
    simp only [Memory.insert]
    split
    · simp
    · simp only [List.mem_cons, ih]
      constructor
      · rintro (h | h | h) <;> simp [h]
      · rintro (h | h | h) <;> simp [h]

theorem Memory.wf_insert (m : Memory) (a : Nat) (v : Byte) (h : m.wf) (ha : a < 2 ^ 64) (hv : v ≠ Memory.unlisted)
    (habs : ∀ c ∈ m, c.1 ≠ a) : (m.insert a v).wf := by
  refine ⟨?_, ?_⟩
  · have hp := h.1
    clear h
    induction m with
    | nil => simp [Memory.insert]
    | cons d m ih =>
      have hd := habs d (by simp)
      rw [List.pairwise_cons] at hp
      simp only [Memory.insert]
      split
      · rename_i hlt
        refine List.pairwise_cons.2 ⟨?_, List.pairwise_cons.2 hp⟩
        intro c hc
        rcases List.mem_cons.1 hc with rfl | hc
        · exact hlt
        · exact Nat.lt_trans hlt (hp.1 c hc)
      · refine List.pairwise_cons.2 ⟨?_, ih (fun c hc => habs c (by simp [hc])) hp.2⟩
        intro c hc
        rcases (Memory.mem_insert m a v c).1 hc with rfl | hc
        · simp only; omega
        · exact hp.1 c hc
  · intro c hc
    rcases (Memory.mem_insert m a v c).1 hc with rfl | hc
    · exact ⟨ha, hv⟩
    · exact h.2 c hc

/-- A byte write keeps the canonical form. -/
theorem Memory.wf_write (m : Memory) (a : Nat) (v : Byte) (h : m.wf) : (m.write a v).wf := by
  unfold Memory.write
  split
  · split
    · exact Memory.wf_erase m a h
    · exact Memory.wf_insert _ a v (Memory.wf_erase m a h) ‹_› ‹_› (Memory.erase_absent m a)
  · exact h

/-- Several byte writes keep the canonical form. -/
theorem Memory.wf_writeCells (m : Memory) (cells : List Host.Cell) (h : m.wf) : (m.writeCells cells).wf := by
  induction cells generalizing m with
  | nil => exact h
  | cons c cells ih => exact ih _ (Memory.wf_write m c.1 c.2 h)

/-- A store keeps the canonical form. -/
theorem Memory.wf_store (e : Endian) (m : Memory) (a n : Nat) (v : Word) (h : m.wf) : (m.store e a n v).wf := by
  have : ∀ (ks : List Nat) (m : Memory), m.wf →
      Memory.wf (ks.foldl (fun m k => m.write (a + k) (byteOf v (bytePlace e n k))) m) := by
    intro ks
    induction ks with
    | nil => intro m h; exact h
    | cons k ks ih => intro m h; exact ih _ (Memory.wf_write m _ _ h)
  exact this _ m h

/-- The reads of a torn access keep the canonical form. -/
theorem Memory.wf_tornLoad (a : Nat) (order : List (Nat × List Host.Cell)) (m : Memory) (h : m.wf) :
    (Memory.tornLoad a order m).2.wf := by
  induction order generalizing m with
  | nil => exact h
  | cons o order ih => exact ih _ (Memory.wf_writeCells m o.2 h)

/-- The writes of a torn access keep the canonical form. -/
theorem Memory.wf_tornStore (e : Endian) (a n : Nat) (v : Word) (order : List (Nat × List Host.Cell)) (m : Memory)
    (h : m.wf) : (Memory.tornStore e a n v order m).wf := by
  induction order generalizing m with
  | nil => exact h
  | cons o order ih => exact ih _ (Memory.wf_write _ _ _ (Memory.wf_writeCells m o.2 h))

/-! Accesses of the machine -/

/-- Where a read leaves memory: unchanged, but for what the environment did inside a torn access. -/
theorem State.memRead_memory (s : State) (ea : Word) (n : Nat) :
    (s.memRead ea n).2 = s.mem ∨
      misaligned ea n = true ∧ (s.memRead ea n).2 = (Memory.tornLoad ea.toNat (s.tornOrder n) s.mem).2 := by
  unfold State.memRead
  by_cases h : misaligned ea n <;> simp [h]

theorem State.memRead_aligned (s : State) (ea : Word) (n : Nat) (h : misaligned ea n = false) :
    s.memRead ea n = (s.mem.load s.params.hostEndian ea.toNat n, s.mem) := by
  simp [State.memRead, h]

theorem State.memWrite_aligned (s : State) (ea : Word) (n : Nat) (v : Word) (h : misaligned ea n = false) :
    s.memWrite ea n v = s.mem.store s.params.hostEndian ea.toNat n v := by
  simp [State.memWrite, h]

theorem State.wf_memRead (s : State) (ea : Word) (n : Nat) (h : s.mem.wf) : (s.memRead ea n).2.wf := by
  rcases State.memRead_memory s ea n with h' | ⟨_, h'⟩ <;> rw [h']
  · exact h
  · exact Memory.wf_tornLoad _ _ _ h

theorem State.wf_memWrite (s : State) (ea : Word) (n : Nat) (v : Word) (h : s.mem.wf) : (s.memWrite ea n v).wf := by
  unfold State.memWrite
  split
  · exact Memory.wf_tornStore _ _ _ _ _ _ h
  · exact Memory.wf_store _ _ _ _ _ h

theorem State.wf_atomicRMW (s : State) (ea : Word) (n : Nat) (f : Word → Word) (h : s.mem.wf) :
    (s.atomicRMW ea n f).2.wf := Memory.wf_store _ _ _ _ _ h

/-- Bytes outside `[a, a + n)` are left alone by a store. -/
theorem Memory.read_store_outside (e : Endian) (m : Memory) (a n b : Nat) (v : Word) (h : b < a ∨ a + n ≤ b) :
    (m.store e a n v).read b = m.read b := by
  have : ∀ (ks : List Nat) (m : Memory), (∀ k ∈ ks, k < n) →
      Memory.read (ks.foldl (fun m k => m.write (a + k) (byteOf v (bytePlace e n k))) m) b = m.read b := by
    intro ks
    induction ks with
    | nil => intro m _; rfl
    | cons k ks ih =>
      intro m hk
      have hkn := hk k (by simp)
      rw [List.foldl_cons, ih _ fun j hj => hk j (by simp [hj]), Memory.read_write_other]
      omega
  exact this _ m fun k hk => List.mem_range.1 hk

/-- The bytes a store writes: byte `k` of the access holds the value's byte `bytePlace e n k`. -/
theorem Memory.read_store_inside (e : Endian) (m : Memory) (a n k : Nat) (v : Word) (hk : k < n)
    (hb : a + n ≤ 2 ^ 64) : (m.store e a n v).read (a + k) = byteOf v (bytePlace e n k) := by
  have : ∀ (j : Nat) (m : Memory), j ≤ n → k < j →
      Memory.read ((List.range j).foldl (fun m k => m.write (a + k) (byteOf v (bytePlace e n k))) m) (a + k)
        = byteOf v (bytePlace e n k) := by
    intro j
    induction j with
    | zero => intro m _ h; omega
    | succ j ih =>
      intro m hj hkj
      rw [List.range_succ, List.foldl_append, List.foldl_cons, List.foldl_nil, Memory.read_write]
      by_cases h : k = j
      · subst h; simp; intro h'; omega
      · rw [if_neg (by omega)]; exact ih m (by omega) (by omega)
  exact this n m (Nat.le_refl n) hk

end Sys2Proof.Machine
end

