-- ==== Sys2Proof/Laws/State.lean ====
section
/-! SUPPORT. What each update of the state leaves in each field, true by rfl: later proofs never unfold an update. -/

namespace Sys2Proof.Machine

/-! Fields after `State.raise` -/

@[simp] theorem State.raise_regs (s : State) (t : Trap) : (s.raise t).regs = s.regs := rfl
@[simp] theorem State.raise_pc (s : State) (t : Trap) : (s.raise t).pc = s.pc := rfl
@[simp] theorem State.raise_cs (s : State) (t : Trap) : (s.raise t).cs = s.cs := rfl
@[simp] theorem State.raise_mem (s : State) (t : Trap) : (s.raise t).mem = s.mem := rfl
@[simp] theorem State.raise_status (s : State) (t : Trap) : (s.raise t).status = .faulted t := rfl
@[simp] theorem State.raise_params (s : State) (t : Trap) : (s.raise t).params = s.params := rfl
@[simp] theorem State.raise_ticks (s : State) (t : Trap) : (s.raise t).ticks = s.ticks := rfl

/-! Fields after `State.setReg` -/

@[simp] theorem State.setReg_regs (s : State) (r : Reg) (v : Word) : (s.setReg r v).regs = s.regs.set r (some v) := rfl
@[simp] theorem State.setReg_pc (s : State) (r : Reg) (v : Word) : (s.setReg r v).pc = s.pc := rfl
@[simp] theorem State.setReg_cs (s : State) (r : Reg) (v : Word) : (s.setReg r v).cs = s.cs := rfl
@[simp] theorem State.setReg_mem (s : State) (r : Reg) (v : Word) : (s.setReg r v).mem = s.mem := rfl
@[simp] theorem State.setReg_status (s : State) (r : Reg) (v : Word) : (s.setReg r v).status = s.status := rfl
@[simp] theorem State.setReg_params (s : State) (r : Reg) (v : Word) : (s.setReg r v).params = s.params := rfl
@[simp] theorem State.setReg_ticks (s : State) (r : Reg) (v : Word) : (s.setReg r v).ticks = s.ticks := rfl

/-! Fields after `State.setMem` -/

@[simp] theorem State.setMem_regs (s : State) (m : Memory) : (s.setMem m).regs = s.regs := rfl
@[simp] theorem State.setMem_pc (s : State) (m : Memory) : (s.setMem m).pc = s.pc := rfl
@[simp] theorem State.setMem_cs (s : State) (m : Memory) : (s.setMem m).cs = s.cs := rfl
@[simp] theorem State.setMem_mem (s : State) (m : Memory) : (s.setMem m).mem = m := rfl
@[simp] theorem State.setMem_status (s : State) (m : Memory) : (s.setMem m).status = s.status := rfl
@[simp] theorem State.setMem_params (s : State) (m : Memory) : (s.setMem m).params = s.params := rfl
@[simp] theorem State.setMem_ticks (s : State) (m : Memory) : (s.setMem m).ticks = s.ticks := rfl

/-! Fields after `State.goto` -/

@[simp] theorem State.goto_regs (s : State) (t : Int) : (s.goto t).regs = s.regs := rfl
@[simp] theorem State.goto_pc (s : State) (t : Int) : (s.goto t).pc = t := rfl
@[simp] theorem State.goto_cs (s : State) (t : Int) : (s.goto t).cs = s.cs := rfl
@[simp] theorem State.goto_mem (s : State) (t : Int) : (s.goto t).mem = s.mem := rfl
@[simp] theorem State.goto_status (s : State) (t : Int) : (s.goto t).status = s.status := rfl
@[simp] theorem State.goto_params (s : State) (t : Int) : (s.goto t).params = s.params := rfl
@[simp] theorem State.goto_ticks (s : State) (t : Int) : (s.goto t).ticks = s.ticks + 1 := rfl

/-! Fields after `State.advance` -/

@[simp] theorem State.advance_regs (s : State) (n : Nat) : (s.advance n).regs = s.regs := rfl
@[simp] theorem State.advance_pc (s : State) (n : Nat) : (s.advance n).pc = s.pc + n := rfl
@[simp] theorem State.advance_cs (s : State) (n : Nat) : (s.advance n).cs = s.cs := rfl
@[simp] theorem State.advance_mem (s : State) (n : Nat) : (s.advance n).mem = s.mem := rfl
@[simp] theorem State.advance_status (s : State) (n : Nat) : (s.advance n).status = s.status := rfl
@[simp] theorem State.advance_params (s : State) (n : Nat) : (s.advance n).params = s.params := rfl
@[simp] theorem State.advance_ticks (s : State) (n : Nat) : (s.advance n).ticks = s.ticks + 1 := rfl

/-! Fields after a call and a return -/

@[simp] theorem State.call_mem (s : State) (t : Int) : (s.call t).mem = s.mem := rfl
@[simp] theorem State.ret_mem (s : State) (f : Frame) (r : List Frame) : (s.ret f r).mem = s.mem := rfl
@[simp] theorem State.call_status (s : State) (t : Int) : (s.call t).status = s.status := rfl
@[simp] theorem State.ret_status (s : State) (f : Frame) (r : List Frame) : (s.ret f r).status = s.status := rfl
@[simp] theorem State.call_params (s : State) (t : Int) : (s.call t).params = s.params := rfl
@[simp] theorem State.ret_params (s : State) (f : Frame) (r : List Frame) : (s.ret f r).params = s.params := rfl
@[simp] theorem State.call_pc (s : State) (t : Int) : (s.call t).pc = t := rfl
@[simp] theorem State.call_ticks (s : State) (t : Int) : (s.call t).ticks = s.ticks + 1 := rfl
@[simp] theorem State.call_cs (s : State) (t : Int) : (s.call t).cs =
    { ret := s.pc + 1, saved := s.params.callAbi.saved.map fun r => (r, s.regs[r]) } :: s.cs := rfl
@[simp] theorem State.ret_pc (s : State) (f : Frame) (r : List Frame) : (s.ret f r).pc = f.ret := rfl
@[simp] theorem State.ret_ticks (s : State) (f : Frame) (r : List Frame) : (s.ret f r).ticks = s.ticks + 1 := rfl
@[simp] theorem State.ret_cs (s : State) (f : Frame) (r : List Frame) : (s.ret f r).cs = r := rfl

/-! Fields after the environment's turn -/

@[simp] theorem State.environmentActs_regs (s : State) : s.environmentActs.regs = s.regs := by
  unfold State.environmentActs; split <;> rfl
@[simp] theorem State.environmentActs_pc (s : State) : s.environmentActs.pc = s.pc := by
  unfold State.environmentActs; split <;> rfl
@[simp] theorem State.environmentActs_cs (s : State) : s.environmentActs.cs = s.cs := by
  unfold State.environmentActs; split <;> rfl
@[simp] theorem State.environmentActs_status (s : State) : s.environmentActs.status = s.status := by
  unfold State.environmentActs; split <;> rfl
@[simp] theorem State.environmentActs_params (s : State) : s.environmentActs.params = s.params := by
  unfold State.environmentActs; split <;> rfl
@[simp] theorem State.environmentActs_ticks (s : State) : s.environmentActs.ticks = s.ticks := by
  unfold State.environmentActs; split <;> rfl

/-- Without a turn of the environment nothing changes. -/
theorem State.environmentActs_noTurn (s : State) (h : s.turn = none) : s.environmentActs = s := by
  simp [State.environmentActs, h]

/-- A turn of the environment changes memory alone. -/
theorem State.environmentActs_turn (s : State) (t : EnvTurn) (h : s.turn = some t) :
    s.environmentActs = s.setMem (s.environmentMem t) := by
  simp [State.environmentActs, h]

/-! Fields of the entry state -/

@[simp] theorem State.entry_regs (p : Params) (m : Memory) : (State.entry p m).regs = RegFile.entry p.entryRegs := rfl
@[simp] theorem State.entry_pc (p : Params) (m : Memory) : (State.entry p m).pc = p.entryPc := rfl
@[simp] theorem State.entry_cs (p : Params) (m : Memory) : (State.entry p m).cs = [] := rfl
@[simp] theorem State.entry_mem (p : Params) (m : Memory) : (State.entry p m).mem = m := rfl
@[simp] theorem State.entry_status (p : Params) (m : Memory) : (State.entry p m).status = .running := rfl
@[simp] theorem State.entry_params (p : Params) (m : Memory) : (State.entry p m).params = p := rfl
@[simp] theorem State.entry_ticks (p : Params) (m : Memory) : (State.entry p m).ticks = 0 := rfl

end Sys2Proof.Machine
end

