-- ==== Sys2Proof/Laws/Ops.lean ====
section
/-! SUPPORT. One lemma per shared operation that says all it can do: provers cite these and do not unfold the
operations. -/

namespace Sys2Proof.Machine

/-! Registers -/

@[simp] theorem State.reg_setReg_self (s : State) (r : Reg) (v : Word) : (s.setReg r v).reg r = some v := by
  simp [State.reg, State.setReg]

theorem State.reg_setReg_other (s : State) (r q : Reg) (v : Word) (h : q ≠ r) : (s.setReg r v).reg q = s.reg q := by
  have : r.val ≠ q.val := fun h' => h (Fin.ext h'.symm)
  simp [State.reg, State.setReg, this]

theorem State.reg_setReg (s : State) (r q : Reg) (v : Word) :
    (s.setReg r v).reg q = if q = r then some v else s.reg q := by
  by_cases h : q = r
  · subst h; simp
  · simp [h, State.reg_setReg_other s r q v h]

theorem State.withReg_value (s : State) (r : Reg) (k : Word → Result) (v : Word) (h : s.reg r = some v) :
    s.withReg r k = k v := by simp [State.withReg, h]

theorem State.withReg_noValue (s : State) (r : Reg) (k : Word → Result) (h : s.reg r = none) :
    s.withReg r k = .next (s.raise (.unwrittenRegister r)) := by simp [State.withReg, h, State.trap]

/-- All that reading a register can do: it holds a value and the rest goes on, or the step traps (rules R22, R408). -/
theorem State.withReg_cases (s : State) (r : Reg) (k : Word → Result) :
    (∃ v, s.reg r = some v ∧ s.withReg r k = k v) ∨
      s.reg r = none ∧ s.withReg r k = .next (s.raise (.unwrittenRegister r)) := by
  cases h : s.reg r with
  | none => exact .inr ⟨rfl, s.withReg_noValue r k h⟩
  | some v => exact .inl ⟨v, rfl, s.withReg_value r k v h⟩

/-! Admission of an access -/

/-- All that the checks of an access can answer, in their order (rules R43, R44, R405). -/
theorem State.refuses_cases (s : State) (ea : Word) (n : Nat) (kind : AccessKind) :
    2 ^ 64 < ea.toNat + n ∧ s.refuses ea n kind = some .wraps ∨
      ea.toNat + n ≤ 2 ^ 64 ∧ ea.toNat % n ≠ 0 ∧ (kind = .atomic ∨ s.params.misaligned = .fault) ∧
        s.refuses ea n kind = some .misaligned ∨
      ea.toNat + n ≤ 2 ^ 64 ∧ (ea.toNat % n = 0 ∨ kind ≠ .atomic ∧ s.params.misaligned = .perform) ∧
        Params.admits s.params ea n kind = false ∧ s.refuses ea n kind = some .notAccessible ∨
      ea.toNat + n ≤ 2 ^ 64 ∧ (ea.toNat % n = 0 ∨ kind ≠ .atomic ∧ s.params.misaligned = .perform) ∧
        Params.admits s.params ea n kind = true ∧ s.refuses ea n kind = none := by
  have hp : s.params.misaligned = .fault ∨ s.params.misaligned = .perform := by
    cases s.params.misaligned <;> simp
  unfold State.refuses misaligned
  by_cases hw : ea.toNat + n > 2 ^ 64
  · exact .inl ⟨hw, if_pos hw⟩
  · rw [if_neg hw]
    have hw' := Nat.le_of_not_gt hw
    right
    by_cases hm : ea.toNat % n = 0
    · right
      cases ha : Params.admits s.params ea n kind
      · exact .inl ⟨hw', .inl hm, rfl, by simp [hm]⟩
      · exact .inr ⟨hw', .inl hm, rfl, by simp [hm]⟩
    · by_cases hk : kind = .atomic
      · exact .inl ⟨hw', hm, .inl hk, by simp [hm, hk]⟩
      · rcases hp with hp | hp
        · exact .inl ⟨hw', hm, .inr hp, by simp [hm, hp]⟩
        · right
          cases ha : Params.admits s.params ea n kind
          · exact .inl ⟨hw', .inr ⟨hk, hp⟩, rfl, by simp [hk, hp]⟩
          · exact .inr ⟨hw', .inr ⟨hk, hp⟩, rfl, by simp [hk, hp]⟩

theorem State.withAccess_admitted (s : State) (ea : Word) (n : Nat) (kind : AccessKind) (k : Result)
    (h : s.refuses ea n kind = none) : s.withAccess ea n kind k = k := by simp [State.withAccess, h]

theorem State.withAccess_refused (s : State) (ea : Word) (n : Nat) (kind : AccessKind) (k : Result) (r : MemReason)
    (h : s.refuses ea n kind = some r) :
    s.withAccess ea n kind k = .next (s.raise (.memoryFault ea n kind r)) := by
  simp [State.withAccess, h, State.trap]

/-- All that an access can do: it is admitted and the rest goes on, or the step traps with nothing transferred. -/
theorem State.withAccess_cases (s : State) (ea : Word) (n : Nat) (kind : AccessKind) (k : Result) :
    s.refuses ea n kind = none ∧ s.withAccess ea n kind k = k ∨
      ∃ r, s.refuses ea n kind = some r ∧
        s.withAccess ea n kind k = .next (s.raise (.memoryFault ea n kind r)) := by
  cases h : s.refuses ea n kind with
  | none => exact .inl ⟨rfl, s.withAccess_admitted ea n kind k h⟩
  | some r => exact .inr ⟨r, rfl, s.withAccess_refused ea n kind k r h⟩

theorem Params.admits_iff (p : Params) (ea : Word) (n : Nat) (kind : AccessKind) :
    Params.admits p ea n kind = true ↔
      ∃ g ∈ p.accessible, g.kind = kind ∧ g.size = n ∧ g.first ≤ ea ∧ ea ≤ g.last := by
  simp [Params.admits, and_assoc]

/-! The platform and the call stack -/

/-- What a relation's choice can be: none if it relates the state to nothing, else one of the states it relates to. -/
theorem HelperRel.choose_cases (c : PlatformSite) (h : HelperRel) (x : PlatformState) :
    HelperRel.outcomes c h x = [] ∧ HelperRel.choose c h x = none ∨
      ∃ y ∈ HelperRel.outcomes c h x, HelperRel.choose c h x = some y := by
  unfold HelperRel.choose
  cases ho : HelperRel.outcomes c h x with
  | nil => exact .inl ⟨rfl, rfl⟩
  | cons y l =>
    cases l with
    | nil => exact .inr ⟨y, by simp, rfl⟩
    | cons z more =>
      have hlt : Config.freePick c.site c.ticks c.regs c.mem % (y :: z :: more).length < (y :: z :: more).length :=
        Nat.mod_lt _ (Nat.succ_pos _)
      exact .inr ⟨_, List.getElem_mem hlt, List.getElem?_eq_getElem hlt⟩

/-- All that a helper call can do (rules R251, R253). -/
theorem State.callPlatform_cases (s : State) (site : FreeSite) (table : List (Word32 × HelperRel)) (imm : Word32) :
    table.lookup imm = none ∧
        s.callPlatform site table imm = .next (s.raise (.platformFault .unknownHelper imm)) ∨
      ∃ h, table.lookup imm = some h ∧
        (HelperRel.outcomes (s.siteOf site) h s.platformState = [] ∧
            s.callPlatform site table imm = .next (s.raise (.platformFault .helperFailed imm)) ∨
          ∃ y ∈ HelperRel.outcomes (s.siteOf site) h s.platformState,
            s.callPlatform site table imm = .next (({ s with regs := y.regs, mem := y.mem }).advance 1)) := by
  unfold State.callPlatform
  cases hl : table.lookup imm with
  | none => exact .inl ⟨rfl, rfl⟩
  | some h =>
    refine .inr ⟨h, rfl, ?_⟩
    rcases HelperRel.choose_cases (s.siteOf site) h s.platformState with ⟨ho, hc⟩ | ⟨y, hy, hc⟩
    · exact .inl ⟨ho, by simp [hc, State.trap]⟩
    · exact .inr ⟨y, hy, by simp [hc]⟩

/-- A property of lists that a function keeps holds after any number of repetitions. -/
theorem repeated_keeps {α : Type} (P : α → Prop) (f : α → α) (hf : ∀ x, P x → P (f x)) (n : Nat) (x : α) (h : P x) :
    P (repeated f n x) := by
  induction n generalizing x with
  | zero => exact h
  | succ n ih => exact ih _ (hf x h)

/-- Every relation of the platform keeps the canonical form of memory. -/
theorem HelperRel.wf_outcomes (c : PlatformSite) (h : HelperRel) (x : PlatformState) (hx : x.mem.wf) :
    ∀ y ∈ HelperRel.outcomes c h x, y.mem.wf := by
  induction h generalizing x with
  | skip => simpa [HelperRel.outcomes] using hx
  | fail => simp [HelperRel.outcomes]
  | setReg r e => simpa [HelperRel.outcomes] using hx
  | setVar k e => simpa [HelperRel.outcomes] using hx
  | store n ea v =>
    intro y hy
    simp only [HelperRel.outcomes] at hy
    split at hy
    · rw [List.mem_singleton.1 hy]
      exact Memory.wf_store _ _ _ _ _ hx
    · cases hy
  | anyMem =>
    intro y hy
    rw [List.mem_singleton.1 hy]
    exact Memory.wf_writeCells _ _ Memory.wf_nil
  | test e =>
    intro y hy
    simp only [HelperRel.outcomes] at hy
    split at hy
    · split at hy
      · cases hy
      · rw [List.mem_singleton.1 hy]
        exact hx
    · cases hy
  | pick k last =>
    intro y hy
    simp only [HelperRel.outcomes] at hy
    split at hy
    · obtain ⟨v, -, rfl⟩ := List.mem_map.1 hy
      exact hx
    · cases hy
  | seq a b iha ihb =>
    intro y hy
    obtain ⟨z, hz, hy⟩ := List.mem_flatMap.1 hy
    exact ihb z (iha x hx z hz) y hy
  | either a b iha ihb =>
    intro y hy
    rcases List.mem_append.1 hy with hy | hy
    · exact iha x hx y hy
    · exact ihb x hx y hy
  | loop n b ih =>
    intro y hy
    simp only [HelperRel.outcomes] at hy
    split at hy
    · refine repeated_keeps (fun l => ∀ y ∈ l, y.mem.wf) _ ?_ _ [x] (by simpa using hx) y hy
      intro l hl y hy
      obtain ⟨z, hz, hy⟩ := List.mem_flatMap.1 hy
      exact ih z (hl z hz) y hy
    · cases hy

/-- The environment's turn keeps the canonical form of memory. -/
theorem State.wf_environmentMem (s : State) (t : EnvTurn) (h : s.mem.wf) : (s.environmentMem t).wf := by
  have hm := Memory.wf_writeCells s.mem t.before h
  unfold State.environmentMem
  rcases HelperRel.choose_cases (s.siteOf .environment) t.act
    { regs := Vector.replicate 11 none, mem := s.mem.writeCells t.before, vars := [] } with ⟨-, hc⟩ | ⟨y, hy, hc⟩
  · simpa [hc] using hm
  · simpa [hc] using HelperRel.wf_outcomes _ _ _ hm y hy

/-- All that an address query can do (rule R330). -/
theorem State.loadAddress_cases (s : State) (dst : Reg) (imm : Word32) (what : PlatformReason) (v : Option Word) :
    (∃ a, v = some a ∧ s.loadAddress dst imm what v = .next ((s.setReg dst a).advance 2)) ∨
      v = none ∧ s.loadAddress dst imm what v = .next (s.raise (.platformFault what imm)) := by
  cases v with
  | none => exact .inr ⟨rfl, rfl⟩
  | some a => exact .inl ⟨a, rfl, rfl⟩

theorem State.callStackFull_iff (s : State) :
    s.callStackFull = true ↔ ∃ d, s.params.maxCallDepth = some d ∧ d ≤ s.cs.length := by
  unfold State.callStackFull
  cases s.params.maxCallDepth <;> simp

/-- With `CALL_ABI = bare` a call leaves the registers alone (rule R252). -/
theorem State.call_regs_bare (s : State) (t : Int) (h : s.params.callAbi = CallAbi.bare) : (s.call t).regs = s.regs := by
  simp [State.call, State.goto, RegFile.effects, h, CallAbi.bare]

/-- With `CALL_ABI = bare` a return from a frame that saved nothing leaves the registers alone (rule R254). -/
theorem State.ret_regs_bare (s : State) (f : Frame) (r : List Frame) (h : s.params.callAbi = CallAbi.bare)
    (hf : f.saved = []) : (s.ret f r).regs = s.regs := by
  simp [State.ret, State.goto, RegFile.effects, h, hf, CallAbi.bare]

end Sys2Proof.Machine
end

