-- ==== Sys2Proof/Laws/PerInstr.lean ====
section
/-! SUPPORT. Facts about every instruction as syntax, one lemma per constructor. -/

namespace Sys2Proof.Laws

/-- The length of an encoding is known from its first opcode byte (rule R73 step 3): one slot, or two when the opcode is
0x18, the second with every field but `imm` zero (rule R65). -/
def EncodingShape.Statement (i : Instr) : Prop :=
  (∃ f, encode i = [f] ∧ f.opcode ≠ 0x18) ∨
    ∃ f n, encode i = [f, { opcode := 0, dst := 0, src := 0, offset := 0, imm := n }] ∧ f.opcode = 0x18

theorem EncodingShape.add32K (dst : Reg) (imm : Word32) : EncodingShape.Statement (.add32K dst imm) :=
  .inl ⟨_, rfl, (by decide : (0x04 : BitVec 8) ≠ 0x18)⟩
theorem EncodingShape.add32X (dst src : Reg) : EncodingShape.Statement (.add32X dst src) :=
  .inl ⟨_, rfl, (by decide : (0x0c : BitVec 8) ≠ 0x18)⟩
theorem EncodingShape.sub32K (dst : Reg) (imm : Word32) : EncodingShape.Statement (.sub32K dst imm) :=
  .inl ⟨_, rfl, (by decide : (0x14 : BitVec 8) ≠ 0x18)⟩
theorem EncodingShape.sub32X (dst src : Reg) : EncodingShape.Statement (.sub32X dst src) :=
  .inl ⟨_, rfl, (by decide : (0x1c : BitVec 8) ≠ 0x18)⟩
theorem EncodingShape.mul32K (dst : Reg) (imm : Word32) : EncodingShape.Statement (.mul32K dst imm) :=
  .inl ⟨_, rfl, (by decide : (0x24 : BitVec 8) ≠ 0x18)⟩
theorem EncodingShape.mul32X (dst src : Reg) : EncodingShape.Statement (.mul32X dst src) :=
  .inl ⟨_, rfl, (by decide : (0x2c : BitVec 8) ≠ 0x18)⟩
theorem EncodingShape.div32K (dst : Reg) (imm : Word32) : EncodingShape.Statement (.div32K dst imm) :=
  .inl ⟨_, rfl, (by decide : (0x34 : BitVec 8) ≠ 0x18)⟩
theorem EncodingShape.div32X (dst src : Reg) : EncodingShape.Statement (.div32X dst src) :=
  .inl ⟨_, rfl, (by decide : (0x3c : BitVec 8) ≠ 0x18)⟩
theorem EncodingShape.sdiv32K (dst : Reg) (imm : Word32) : EncodingShape.Statement (.sdiv32K dst imm) :=
  .inl ⟨_, rfl, (by decide : (0x34 : BitVec 8) ≠ 0x18)⟩
theorem EncodingShape.sdiv32X (dst src : Reg) : EncodingShape.Statement (.sdiv32X dst src) :=
  .inl ⟨_, rfl, (by decide : (0x3c : BitVec 8) ≠ 0x18)⟩
theorem EncodingShape.or32K (dst : Reg) (imm : Word32) : EncodingShape.Statement (.or32K dst imm) :=
  .inl ⟨_, rfl, (by decide : (0x44 : BitVec 8) ≠ 0x18)⟩
theorem EncodingShape.or32X (dst src : Reg) : EncodingShape.Statement (.or32X dst src) :=
  .inl ⟨_, rfl, (by decide : (0x4c : BitVec 8) ≠ 0x18)⟩
theorem EncodingShape.and32K (dst : Reg) (imm : Word32) : EncodingShape.Statement (.and32K dst imm) :=
  .inl ⟨_, rfl, (by decide : (0x54 : BitVec 8) ≠ 0x18)⟩
theorem EncodingShape.and32X (dst src : Reg) : EncodingShape.Statement (.and32X dst src) :=
  .inl ⟨_, rfl, (by decide : (0x5c : BitVec 8) ≠ 0x18)⟩
theorem EncodingShape.lsh32K (dst : Reg) (imm : Word32) : EncodingShape.Statement (.lsh32K dst imm) :=
  .inl ⟨_, rfl, (by decide : (0x64 : BitVec 8) ≠ 0x18)⟩
theorem EncodingShape.lsh32X (dst src : Reg) : EncodingShape.Statement (.lsh32X dst src) :=
  .inl ⟨_, rfl, (by decide : (0x6c : BitVec 8) ≠ 0x18)⟩
theorem EncodingShape.rsh32K (dst : Reg) (imm : Word32) : EncodingShape.Statement (.rsh32K dst imm) :=
  .inl ⟨_, rfl, (by decide : (0x74 : BitVec 8) ≠ 0x18)⟩
theorem EncodingShape.rsh32X (dst src : Reg) : EncodingShape.Statement (.rsh32X dst src) :=
  .inl ⟨_, rfl, (by decide : (0x7c : BitVec 8) ≠ 0x18)⟩
theorem EncodingShape.neg32 (dst : Reg) : EncodingShape.Statement (.neg32 dst) :=
  .inl ⟨_, rfl, (by decide : (0x84 : BitVec 8) ≠ 0x18)⟩
theorem EncodingShape.mod32K (dst : Reg) (imm : Word32) : EncodingShape.Statement (.mod32K dst imm) :=
  .inl ⟨_, rfl, (by decide : (0x94 : BitVec 8) ≠ 0x18)⟩
theorem EncodingShape.mod32X (dst src : Reg) : EncodingShape.Statement (.mod32X dst src) :=
  .inl ⟨_, rfl, (by decide : (0x9c : BitVec 8) ≠ 0x18)⟩
theorem EncodingShape.smod32K (dst : Reg) (imm : Word32) : EncodingShape.Statement (.smod32K dst imm) :=
  .inl ⟨_, rfl, (by decide : (0x94 : BitVec 8) ≠ 0x18)⟩
theorem EncodingShape.smod32X (dst src : Reg) : EncodingShape.Statement (.smod32X dst src) :=
  .inl ⟨_, rfl, (by decide : (0x9c : BitVec 8) ≠ 0x18)⟩
theorem EncodingShape.xor32K (dst : Reg) (imm : Word32) : EncodingShape.Statement (.xor32K dst imm) :=
  .inl ⟨_, rfl, (by decide : (0xa4 : BitVec 8) ≠ 0x18)⟩
theorem EncodingShape.xor32X (dst src : Reg) : EncodingShape.Statement (.xor32X dst src) :=
  .inl ⟨_, rfl, (by decide : (0xac : BitVec 8) ≠ 0x18)⟩
theorem EncodingShape.mov32K (dst : Reg) (imm : Word32) : EncodingShape.Statement (.mov32K dst imm) :=
  .inl ⟨_, rfl, (by decide : (0xb4 : BitVec 8) ≠ 0x18)⟩
theorem EncodingShape.mov32X (dst src : Reg) : EncodingShape.Statement (.mov32X dst src) :=
  .inl ⟨_, rfl, (by decide : (0xbc : BitVec 8) ≠ 0x18)⟩
theorem EncodingShape.movsx32_8 (dst src : Reg) : EncodingShape.Statement (.movsx32_8 dst src) :=
  .inl ⟨_, rfl, (by decide : (0xbc : BitVec 8) ≠ 0x18)⟩
theorem EncodingShape.movsx32_16 (dst src : Reg) : EncodingShape.Statement (.movsx32_16 dst src) :=
  .inl ⟨_, rfl, (by decide : (0xbc : BitVec 8) ≠ 0x18)⟩
theorem EncodingShape.arsh32K (dst : Reg) (imm : Word32) : EncodingShape.Statement (.arsh32K dst imm) :=
  .inl ⟨_, rfl, (by decide : (0xc4 : BitVec 8) ≠ 0x18)⟩
theorem EncodingShape.arsh32X (dst src : Reg) : EncodingShape.Statement (.arsh32X dst src) :=
  .inl ⟨_, rfl, (by decide : (0xcc : BitVec 8) ≠ 0x18)⟩
theorem EncodingShape.add64K (dst : Reg) (imm : Word32) : EncodingShape.Statement (.add64K dst imm) :=
  .inl ⟨_, rfl, (by decide : (0x07 : BitVec 8) ≠ 0x18)⟩
theorem EncodingShape.add64X (dst src : Reg) : EncodingShape.Statement (.add64X dst src) :=
  .inl ⟨_, rfl, (by decide : (0x0f : BitVec 8) ≠ 0x18)⟩
theorem EncodingShape.sub64K (dst : Reg) (imm : Word32) : EncodingShape.Statement (.sub64K dst imm) :=
  .inl ⟨_, rfl, (by decide : (0x17 : BitVec 8) ≠ 0x18)⟩
theorem EncodingShape.sub64X (dst src : Reg) : EncodingShape.Statement (.sub64X dst src) :=
  .inl ⟨_, rfl, (by decide : (0x1f : BitVec 8) ≠ 0x18)⟩
theorem EncodingShape.mul64K (dst : Reg) (imm : Word32) : EncodingShape.Statement (.mul64K dst imm) :=
  .inl ⟨_, rfl, (by decide : (0x27 : BitVec 8) ≠ 0x18)⟩
theorem EncodingShape.mul64X (dst src : Reg) : EncodingShape.Statement (.mul64X dst src) :=
  .inl ⟨_, rfl, (by decide : (0x2f : BitVec 8) ≠ 0x18)⟩
theorem EncodingShape.div64K (dst : Reg) (imm : Word32) : EncodingShape.Statement (.div64K dst imm) :=
  .inl ⟨_, rfl, (by decide : (0x37 : BitVec 8) ≠ 0x18)⟩
theorem EncodingShape.div64X (dst src : Reg) : EncodingShape.Statement (.div64X dst src) :=
  .inl ⟨_, rfl, (by decide : (0x3f : BitVec 8) ≠ 0x18)⟩
theorem EncodingShape.sdiv64K (dst : Reg) (imm : Word32) : EncodingShape.Statement (.sdiv64K dst imm) :=
  .inl ⟨_, rfl, (by decide : (0x37 : BitVec 8) ≠ 0x18)⟩
theorem EncodingShape.sdiv64X (dst src : Reg) : EncodingShape.Statement (.sdiv64X dst src) :=
  .inl ⟨_, rfl, (by decide : (0x3f : BitVec 8) ≠ 0x18)⟩
theorem EncodingShape.or64K (dst : Reg) (imm : Word32) : EncodingShape.Statement (.or64K dst imm) :=
  .inl ⟨_, rfl, (by decide : (0x47 : BitVec 8) ≠ 0x18)⟩
theorem EncodingShape.or64X (dst src : Reg) : EncodingShape.Statement (.or64X dst src) :=
  .inl ⟨_, rfl, (by decide : (0x4f : BitVec 8) ≠ 0x18)⟩
theorem EncodingShape.and64K (dst : Reg) (imm : Word32) : EncodingShape.Statement (.and64K dst imm) :=
  .inl ⟨_, rfl, (by decide : (0x57 : BitVec 8) ≠ 0x18)⟩
theorem EncodingShape.and64X (dst src : Reg) : EncodingShape.Statement (.and64X dst src) :=
  .inl ⟨_, rfl, (by decide : (0x5f : BitVec 8) ≠ 0x18)⟩
theorem EncodingShape.lsh64K (dst : Reg) (imm : Word32) : EncodingShape.Statement (.lsh64K dst imm) :=
  .inl ⟨_, rfl, (by decide : (0x67 : BitVec 8) ≠ 0x18)⟩
theorem EncodingShape.lsh64X (dst src : Reg) : EncodingShape.Statement (.lsh64X dst src) :=
  .inl ⟨_, rfl, (by decide : (0x6f : BitVec 8) ≠ 0x18)⟩
theorem EncodingShape.rsh64K (dst : Reg) (imm : Word32) : EncodingShape.Statement (.rsh64K dst imm) :=
  .inl ⟨_, rfl, (by decide : (0x77 : BitVec 8) ≠ 0x18)⟩
theorem EncodingShape.rsh64X (dst src : Reg) : EncodingShape.Statement (.rsh64X dst src) :=
  .inl ⟨_, rfl, (by decide : (0x7f : BitVec 8) ≠ 0x18)⟩
theorem EncodingShape.neg64 (dst : Reg) : EncodingShape.Statement (.neg64 dst) :=
  .inl ⟨_, rfl, (by decide : (0x87 : BitVec 8) ≠ 0x18)⟩
theorem EncodingShape.mod64K (dst : Reg) (imm : Word32) : EncodingShape.Statement (.mod64K dst imm) :=
  .inl ⟨_, rfl, (by decide : (0x97 : BitVec 8) ≠ 0x18)⟩
theorem EncodingShape.mod64X (dst src : Reg) : EncodingShape.Statement (.mod64X dst src) :=
  .inl ⟨_, rfl, (by decide : (0x9f : BitVec 8) ≠ 0x18)⟩
theorem EncodingShape.smod64K (dst : Reg) (imm : Word32) : EncodingShape.Statement (.smod64K dst imm) :=
  .inl ⟨_, rfl, (by decide : (0x97 : BitVec 8) ≠ 0x18)⟩
theorem EncodingShape.smod64X (dst src : Reg) : EncodingShape.Statement (.smod64X dst src) :=
  .inl ⟨_, rfl, (by decide : (0x9f : BitVec 8) ≠ 0x18)⟩
theorem EncodingShape.xor64K (dst : Reg) (imm : Word32) : EncodingShape.Statement (.xor64K dst imm) :=
  .inl ⟨_, rfl, (by decide : (0xa7 : BitVec 8) ≠ 0x18)⟩
theorem EncodingShape.xor64X (dst src : Reg) : EncodingShape.Statement (.xor64X dst src) :=
  .inl ⟨_, rfl, (by decide : (0xaf : BitVec 8) ≠ 0x18)⟩
theorem EncodingShape.mov64K (dst : Reg) (imm : Word32) : EncodingShape.Statement (.mov64K dst imm) :=
  .inl ⟨_, rfl, (by decide : (0xb7 : BitVec 8) ≠ 0x18)⟩
theorem EncodingShape.mov64X (dst src : Reg) : EncodingShape.Statement (.mov64X dst src) :=
  .inl ⟨_, rfl, (by decide : (0xbf : BitVec 8) ≠ 0x18)⟩
theorem EncodingShape.movsx64_8 (dst src : Reg) : EncodingShape.Statement (.movsx64_8 dst src) :=
  .inl ⟨_, rfl, (by decide : (0xbf : BitVec 8) ≠ 0x18)⟩
theorem EncodingShape.movsx64_16 (dst src : Reg) : EncodingShape.Statement (.movsx64_16 dst src) :=
  .inl ⟨_, rfl, (by decide : (0xbf : BitVec 8) ≠ 0x18)⟩
theorem EncodingShape.movsx64_32 (dst src : Reg) : EncodingShape.Statement (.movsx64_32 dst src) :=
  .inl ⟨_, rfl, (by decide : (0xbf : BitVec 8) ≠ 0x18)⟩
theorem EncodingShape.arsh64K (dst : Reg) (imm : Word32) : EncodingShape.Statement (.arsh64K dst imm) :=
  .inl ⟨_, rfl, (by decide : (0xc7 : BitVec 8) ≠ 0x18)⟩
theorem EncodingShape.arsh64X (dst src : Reg) : EncodingShape.Statement (.arsh64X dst src) :=
  .inl ⟨_, rfl, (by decide : (0xcf : BitVec 8) ≠ 0x18)⟩
theorem EncodingShape.le16 (dst : Reg) : EncodingShape.Statement (.le16 dst) :=
  .inl ⟨_, rfl, (by decide : (0xd4 : BitVec 8) ≠ 0x18)⟩
theorem EncodingShape.le32 (dst : Reg) : EncodingShape.Statement (.le32 dst) :=
  .inl ⟨_, rfl, (by decide : (0xd4 : BitVec 8) ≠ 0x18)⟩
theorem EncodingShape.le64 (dst : Reg) : EncodingShape.Statement (.le64 dst) :=
  .inl ⟨_, rfl, (by decide : (0xd4 : BitVec 8) ≠ 0x18)⟩
theorem EncodingShape.be16 (dst : Reg) : EncodingShape.Statement (.be16 dst) :=
  .inl ⟨_, rfl, (by decide : (0xdc : BitVec 8) ≠ 0x18)⟩
theorem EncodingShape.be32 (dst : Reg) : EncodingShape.Statement (.be32 dst) :=
  .inl ⟨_, rfl, (by decide : (0xdc : BitVec 8) ≠ 0x18)⟩
theorem EncodingShape.be64 (dst : Reg) : EncodingShape.Statement (.be64 dst) :=
  .inl ⟨_, rfl, (by decide : (0xdc : BitVec 8) ≠ 0x18)⟩
theorem EncodingShape.bswap16 (dst : Reg) : EncodingShape.Statement (.bswap16 dst) :=
  .inl ⟨_, rfl, (by decide : (0xd7 : BitVec 8) ≠ 0x18)⟩
theorem EncodingShape.bswap32 (dst : Reg) : EncodingShape.Statement (.bswap32 dst) :=
  .inl ⟨_, rfl, (by decide : (0xd7 : BitVec 8) ≠ 0x18)⟩
theorem EncodingShape.bswap64 (dst : Reg) : EncodingShape.Statement (.bswap64 dst) :=
  .inl ⟨_, rfl, (by decide : (0xd7 : BitVec 8) ≠ 0x18)⟩
theorem EncodingShape.ja (offset : BitVec 16) : EncodingShape.Statement (.ja offset) :=
  .inl ⟨_, rfl, (by decide : (0x05 : BitVec 8) ≠ 0x18)⟩
theorem EncodingShape.ja32 (imm : Word32) : EncodingShape.Statement (.ja32 imm) :=
  .inl ⟨_, rfl, (by decide : (0x06 : BitVec 8) ≠ 0x18)⟩
theorem EncodingShape.jeq64K (dst : Reg) (imm : Word32) (offset : BitVec 16) : EncodingShape.Statement (.jeq64K dst imm offset) :=
  .inl ⟨_, rfl, (by decide : (0x15 : BitVec 8) ≠ 0x18)⟩
theorem EncodingShape.jeq64X (dst src : Reg) (offset : BitVec 16) : EncodingShape.Statement (.jeq64X dst src offset) :=
  .inl ⟨_, rfl, (by decide : (0x1d : BitVec 8) ≠ 0x18)⟩
theorem EncodingShape.jeq32K (dst : Reg) (imm : Word32) (offset : BitVec 16) : EncodingShape.Statement (.jeq32K dst imm offset) :=
  .inl ⟨_, rfl, (by decide : (0x16 : BitVec 8) ≠ 0x18)⟩
theorem EncodingShape.jeq32X (dst src : Reg) (offset : BitVec 16) : EncodingShape.Statement (.jeq32X dst src offset) :=
  .inl ⟨_, rfl, (by decide : (0x1e : BitVec 8) ≠ 0x18)⟩
theorem EncodingShape.jgt64K (dst : Reg) (imm : Word32) (offset : BitVec 16) : EncodingShape.Statement (.jgt64K dst imm offset) :=
  .inl ⟨_, rfl, (by decide : (0x25 : BitVec 8) ≠ 0x18)⟩
theorem EncodingShape.jgt64X (dst src : Reg) (offset : BitVec 16) : EncodingShape.Statement (.jgt64X dst src offset) :=
  .inl ⟨_, rfl, (by decide : (0x2d : BitVec 8) ≠ 0x18)⟩
theorem EncodingShape.jgt32K (dst : Reg) (imm : Word32) (offset : BitVec 16) : EncodingShape.Statement (.jgt32K dst imm offset) :=
  .inl ⟨_, rfl, (by decide : (0x26 : BitVec 8) ≠ 0x18)⟩
theorem EncodingShape.jgt32X (dst src : Reg) (offset : BitVec 16) : EncodingShape.Statement (.jgt32X dst src offset) :=
  .inl ⟨_, rfl, (by decide : (0x2e : BitVec 8) ≠ 0x18)⟩
theorem EncodingShape.jge64K (dst : Reg) (imm : Word32) (offset : BitVec 16) : EncodingShape.Statement (.jge64K dst imm offset) :=
  .inl ⟨_, rfl, (by decide : (0x35 : BitVec 8) ≠ 0x18)⟩
theorem EncodingShape.jge64X (dst src : Reg) (offset : BitVec 16) : EncodingShape.Statement (.jge64X dst src offset) :=
  .inl ⟨_, rfl, (by decide : (0x3d : BitVec 8) ≠ 0x18)⟩
theorem EncodingShape.jge32K (dst : Reg) (imm : Word32) (offset : BitVec 16) : EncodingShape.Statement (.jge32K dst imm offset) :=
  .inl ⟨_, rfl, (by decide : (0x36 : BitVec 8) ≠ 0x18)⟩
theorem EncodingShape.jge32X (dst src : Reg) (offset : BitVec 16) : EncodingShape.Statement (.jge32X dst src offset) :=
  .inl ⟨_, rfl, (by decide : (0x3e : BitVec 8) ≠ 0x18)⟩
theorem EncodingShape.jset64K (dst : Reg) (imm : Word32) (offset : BitVec 16) : EncodingShape.Statement (.jset64K dst imm offset) :=
  .inl ⟨_, rfl, (by decide : (0x45 : BitVec 8) ≠ 0x18)⟩
theorem EncodingShape.jset64X (dst src : Reg) (offset : BitVec 16) : EncodingShape.Statement (.jset64X dst src offset) :=
  .inl ⟨_, rfl, (by decide : (0x4d : BitVec 8) ≠ 0x18)⟩
theorem EncodingShape.jset32K (dst : Reg) (imm : Word32) (offset : BitVec 16) : EncodingShape.Statement (.jset32K dst imm offset) :=
  .inl ⟨_, rfl, (by decide : (0x46 : BitVec 8) ≠ 0x18)⟩
theorem EncodingShape.jset32X (dst src : Reg) (offset : BitVec 16) : EncodingShape.Statement (.jset32X dst src offset) :=
  .inl ⟨_, rfl, (by decide : (0x4e : BitVec 8) ≠ 0x18)⟩
theorem EncodingShape.jne64K (dst : Reg) (imm : Word32) (offset : BitVec 16) : EncodingShape.Statement (.jne64K dst imm offset) :=
  .inl ⟨_, rfl, (by decide : (0x55 : BitVec 8) ≠ 0x18)⟩
theorem EncodingShape.jne64X (dst src : Reg) (offset : BitVec 16) : EncodingShape.Statement (.jne64X dst src offset) :=
  .inl ⟨_, rfl, (by decide : (0x5d : BitVec 8) ≠ 0x18)⟩
theorem EncodingShape.jne32K (dst : Reg) (imm : Word32) (offset : BitVec 16) : EncodingShape.Statement (.jne32K dst imm offset) :=
  .inl ⟨_, rfl, (by decide : (0x56 : BitVec 8) ≠ 0x18)⟩
theorem EncodingShape.jne32X (dst src : Reg) (offset : BitVec 16) : EncodingShape.Statement (.jne32X dst src offset) :=
  .inl ⟨_, rfl, (by decide : (0x5e : BitVec 8) ≠ 0x18)⟩
theorem EncodingShape.jsgt64K (dst : Reg) (imm : Word32) (offset : BitVec 16) : EncodingShape.Statement (.jsgt64K dst imm offset) :=
  .inl ⟨_, rfl, (by decide : (0x65 : BitVec 8) ≠ 0x18)⟩
theorem EncodingShape.jsgt64X (dst src : Reg) (offset : BitVec 16) : EncodingShape.Statement (.jsgt64X dst src offset) :=
  .inl ⟨_, rfl, (by decide : (0x6d : BitVec 8) ≠ 0x18)⟩
theorem EncodingShape.jsgt32K (dst : Reg) (imm : Word32) (offset : BitVec 16) : EncodingShape.Statement (.jsgt32K dst imm offset) :=
  .inl ⟨_, rfl, (by decide : (0x66 : BitVec 8) ≠ 0x18)⟩
theorem EncodingShape.jsgt32X (dst src : Reg) (offset : BitVec 16) : EncodingShape.Statement (.jsgt32X dst src offset) :=
  .inl ⟨_, rfl, (by decide : (0x6e : BitVec 8) ≠ 0x18)⟩
theorem EncodingShape.jsge64K (dst : Reg) (imm : Word32) (offset : BitVec 16) : EncodingShape.Statement (.jsge64K dst imm offset) :=
  .inl ⟨_, rfl, (by decide : (0x75 : BitVec 8) ≠ 0x18)⟩
theorem EncodingShape.jsge64X (dst src : Reg) (offset : BitVec 16) : EncodingShape.Statement (.jsge64X dst src offset) :=
  .inl ⟨_, rfl, (by decide : (0x7d : BitVec 8) ≠ 0x18)⟩
theorem EncodingShape.jsge32K (dst : Reg) (imm : Word32) (offset : BitVec 16) : EncodingShape.Statement (.jsge32K dst imm offset) :=
  .inl ⟨_, rfl, (by decide : (0x76 : BitVec 8) ≠ 0x18)⟩
theorem EncodingShape.jsge32X (dst src : Reg) (offset : BitVec 16) : EncodingShape.Statement (.jsge32X dst src offset) :=
  .inl ⟨_, rfl, (by decide : (0x7e : BitVec 8) ≠ 0x18)⟩
theorem EncodingShape.jlt64K (dst : Reg) (imm : Word32) (offset : BitVec 16) : EncodingShape.Statement (.jlt64K dst imm offset) :=
  .inl ⟨_, rfl, (by decide : (0xa5 : BitVec 8) ≠ 0x18)⟩
theorem EncodingShape.jlt64X (dst src : Reg) (offset : BitVec 16) : EncodingShape.Statement (.jlt64X dst src offset) :=
  .inl ⟨_, rfl, (by decide : (0xad : BitVec 8) ≠ 0x18)⟩
theorem EncodingShape.jlt32K (dst : Reg) (imm : Word32) (offset : BitVec 16) : EncodingShape.Statement (.jlt32K dst imm offset) :=
  .inl ⟨_, rfl, (by decide : (0xa6 : BitVec 8) ≠ 0x18)⟩
theorem EncodingShape.jlt32X (dst src : Reg) (offset : BitVec 16) : EncodingShape.Statement (.jlt32X dst src offset) :=
  .inl ⟨_, rfl, (by decide : (0xae : BitVec 8) ≠ 0x18)⟩
theorem EncodingShape.jle64K (dst : Reg) (imm : Word32) (offset : BitVec 16) : EncodingShape.Statement (.jle64K dst imm offset) :=
  .inl ⟨_, rfl, (by decide : (0xb5 : BitVec 8) ≠ 0x18)⟩
theorem EncodingShape.jle64X (dst src : Reg) (offset : BitVec 16) : EncodingShape.Statement (.jle64X dst src offset) :=
  .inl ⟨_, rfl, (by decide : (0xbd : BitVec 8) ≠ 0x18)⟩
theorem EncodingShape.jle32K (dst : Reg) (imm : Word32) (offset : BitVec 16) : EncodingShape.Statement (.jle32K dst imm offset) :=
  .inl ⟨_, rfl, (by decide : (0xb6 : BitVec 8) ≠ 0x18)⟩
theorem EncodingShape.jle32X (dst src : Reg) (offset : BitVec 16) : EncodingShape.Statement (.jle32X dst src offset) :=
  .inl ⟨_, rfl, (by decide : (0xbe : BitVec 8) ≠ 0x18)⟩
theorem EncodingShape.jslt64K (dst : Reg) (imm : Word32) (offset : BitVec 16) : EncodingShape.Statement (.jslt64K dst imm offset) :=
  .inl ⟨_, rfl, (by decide : (0xc5 : BitVec 8) ≠ 0x18)⟩
theorem EncodingShape.jslt64X (dst src : Reg) (offset : BitVec 16) : EncodingShape.Statement (.jslt64X dst src offset) :=
  .inl ⟨_, rfl, (by decide : (0xcd : BitVec 8) ≠ 0x18)⟩
theorem EncodingShape.jslt32K (dst : Reg) (imm : Word32) (offset : BitVec 16) : EncodingShape.Statement (.jslt32K dst imm offset) :=
  .inl ⟨_, rfl, (by decide : (0xc6 : BitVec 8) ≠ 0x18)⟩
theorem EncodingShape.jslt32X (dst src : Reg) (offset : BitVec 16) : EncodingShape.Statement (.jslt32X dst src offset) :=
  .inl ⟨_, rfl, (by decide : (0xce : BitVec 8) ≠ 0x18)⟩
theorem EncodingShape.jsle64K (dst : Reg) (imm : Word32) (offset : BitVec 16) : EncodingShape.Statement (.jsle64K dst imm offset) :=
  .inl ⟨_, rfl, (by decide : (0xd5 : BitVec 8) ≠ 0x18)⟩
theorem EncodingShape.jsle64X (dst src : Reg) (offset : BitVec 16) : EncodingShape.Statement (.jsle64X dst src offset) :=
  .inl ⟨_, rfl, (by decide : (0xdd : BitVec 8) ≠ 0x18)⟩
theorem EncodingShape.jsle32K (dst : Reg) (imm : Word32) (offset : BitVec 16) : EncodingShape.Statement (.jsle32K dst imm offset) :=
  .inl ⟨_, rfl, (by decide : (0xd6 : BitVec 8) ≠ 0x18)⟩
theorem EncodingShape.jsle32X (dst src : Reg) (offset : BitVec 16) : EncodingShape.Statement (.jsle32X dst src offset) :=
  .inl ⟨_, rfl, (by decide : (0xde : BitVec 8) ≠ 0x18)⟩
theorem EncodingShape.callHelper (imm : Word32) : EncodingShape.Statement (.callHelper imm) :=
  .inl ⟨_, rfl, (by decide : (0x85 : BitVec 8) ≠ 0x18)⟩
theorem EncodingShape.callLocal (imm : Word32) : EncodingShape.Statement (.callLocal imm) :=
  .inl ⟨_, rfl, (by decide : (0x85 : BitVec 8) ≠ 0x18)⟩
theorem EncodingShape.callBtf (imm : Word32) : EncodingShape.Statement (.callBtf imm) :=
  .inl ⟨_, rfl, (by decide : (0x85 : BitVec 8) ≠ 0x18)⟩
theorem EncodingShape.exit : EncodingShape.Statement (.exit) :=
  .inl ⟨_, rfl, (by decide : (0x95 : BitVec 8) ≠ 0x18)⟩
theorem EncodingShape.ldxw (dst src : Reg) (offset : BitVec 16) : EncodingShape.Statement (.ldxw dst src offset) :=
  .inl ⟨_, rfl, (by decide : (0x61 : BitVec 8) ≠ 0x18)⟩
theorem EncodingShape.ldxh (dst src : Reg) (offset : BitVec 16) : EncodingShape.Statement (.ldxh dst src offset) :=
  .inl ⟨_, rfl, (by decide : (0x69 : BitVec 8) ≠ 0x18)⟩
theorem EncodingShape.ldxb (dst src : Reg) (offset : BitVec 16) : EncodingShape.Statement (.ldxb dst src offset) :=
  .inl ⟨_, rfl, (by decide : (0x71 : BitVec 8) ≠ 0x18)⟩
theorem EncodingShape.ldxdw (dst src : Reg) (offset : BitVec 16) : EncodingShape.Statement (.ldxdw dst src offset) :=
  .inl ⟨_, rfl, (by decide : (0x79 : BitVec 8) ≠ 0x18)⟩
theorem EncodingShape.stw (dst : Reg) (offset : BitVec 16) (imm : Word32) : EncodingShape.Statement (.stw dst offset imm) :=
  .inl ⟨_, rfl, (by decide : (0x62 : BitVec 8) ≠ 0x18)⟩
theorem EncodingShape.sth (dst : Reg) (offset : BitVec 16) (imm : Word32) : EncodingShape.Statement (.sth dst offset imm) :=
  .inl ⟨_, rfl, (by decide : (0x6a : BitVec 8) ≠ 0x18)⟩
theorem EncodingShape.stb (dst : Reg) (offset : BitVec 16) (imm : Word32) : EncodingShape.Statement (.stb dst offset imm) :=
  .inl ⟨_, rfl, (by decide : (0x72 : BitVec 8) ≠ 0x18)⟩
theorem EncodingShape.stdw (dst : Reg) (offset : BitVec 16) (imm : Word32) : EncodingShape.Statement (.stdw dst offset imm) :=
  .inl ⟨_, rfl, (by decide : (0x7a : BitVec 8) ≠ 0x18)⟩
theorem EncodingShape.stxw (dst src : Reg) (offset : BitVec 16) : EncodingShape.Statement (.stxw dst src offset) :=
  .inl ⟨_, rfl, (by decide : (0x63 : BitVec 8) ≠ 0x18)⟩
theorem EncodingShape.stxh (dst src : Reg) (offset : BitVec 16) : EncodingShape.Statement (.stxh dst src offset) :=
  .inl ⟨_, rfl, (by decide : (0x6b : BitVec 8) ≠ 0x18)⟩
theorem EncodingShape.stxb (dst src : Reg) (offset : BitVec 16) : EncodingShape.Statement (.stxb dst src offset) :=
  .inl ⟨_, rfl, (by decide : (0x73 : BitVec 8) ≠ 0x18)⟩
theorem EncodingShape.stxdw (dst src : Reg) (offset : BitVec 16) : EncodingShape.Statement (.stxdw dst src offset) :=
  .inl ⟨_, rfl, (by decide : (0x7b : BitVec 8) ≠ 0x18)⟩
theorem EncodingShape.ldxsw (dst src : Reg) (offset : BitVec 16) : EncodingShape.Statement (.ldxsw dst src offset) :=
  .inl ⟨_, rfl, (by decide : (0x81 : BitVec 8) ≠ 0x18)⟩
theorem EncodingShape.ldxsh (dst src : Reg) (offset : BitVec 16) : EncodingShape.Statement (.ldxsh dst src offset) :=
  .inl ⟨_, rfl, (by decide : (0x89 : BitVec 8) ≠ 0x18)⟩
theorem EncodingShape.ldxsb (dst src : Reg) (offset : BitVec 16) : EncodingShape.Statement (.ldxsb dst src offset) :=
  .inl ⟨_, rfl, (by decide : (0x91 : BitVec 8) ≠ 0x18)⟩
theorem EncodingShape.atomicAdd32 (dst src : Reg) (offset : BitVec 16) : EncodingShape.Statement (.atomicAdd32 dst src offset) :=
  .inl ⟨_, rfl, (by decide : (0xc3 : BitVec 8) ≠ 0x18)⟩
theorem EncodingShape.atomicOr32 (dst src : Reg) (offset : BitVec 16) : EncodingShape.Statement (.atomicOr32 dst src offset) :=
  .inl ⟨_, rfl, (by decide : (0xc3 : BitVec 8) ≠ 0x18)⟩
theorem EncodingShape.atomicAnd32 (dst src : Reg) (offset : BitVec 16) : EncodingShape.Statement (.atomicAnd32 dst src offset) :=
  .inl ⟨_, rfl, (by decide : (0xc3 : BitVec 8) ≠ 0x18)⟩
theorem EncodingShape.atomicXor32 (dst src : Reg) (offset : BitVec 16) : EncodingShape.Statement (.atomicXor32 dst src offset) :=
  .inl ⟨_, rfl, (by decide : (0xc3 : BitVec 8) ≠ 0x18)⟩
theorem EncodingShape.atomicFetchAdd32 (dst src : Reg) (offset : BitVec 16) : EncodingShape.Statement (.atomicFetchAdd32 dst src offset) :=
  .inl ⟨_, rfl, (by decide : (0xc3 : BitVec 8) ≠ 0x18)⟩
theorem EncodingShape.atomicFetchOr32 (dst src : Reg) (offset : BitVec 16) : EncodingShape.Statement (.atomicFetchOr32 dst src offset) :=
  .inl ⟨_, rfl, (by decide : (0xc3 : BitVec 8) ≠ 0x18)⟩
theorem EncodingShape.atomicFetchAnd32 (dst src : Reg) (offset : BitVec 16) : EncodingShape.Statement (.atomicFetchAnd32 dst src offset) :=
  .inl ⟨_, rfl, (by decide : (0xc3 : BitVec 8) ≠ 0x18)⟩
theorem EncodingShape.atomicFetchXor32 (dst src : Reg) (offset : BitVec 16) : EncodingShape.Statement (.atomicFetchXor32 dst src offset) :=
  .inl ⟨_, rfl, (by decide : (0xc3 : BitVec 8) ≠ 0x18)⟩
theorem EncodingShape.atomicXchg32 (dst src : Reg) (offset : BitVec 16) : EncodingShape.Statement (.atomicXchg32 dst src offset) :=
  .inl ⟨_, rfl, (by decide : (0xc3 : BitVec 8) ≠ 0x18)⟩
theorem EncodingShape.atomicCmpxchg32 (dst src : Reg) (offset : BitVec 16) : EncodingShape.Statement (.atomicCmpxchg32 dst src offset) :=
  .inl ⟨_, rfl, (by decide : (0xc3 : BitVec 8) ≠ 0x18)⟩
theorem EncodingShape.atomicAdd64 (dst src : Reg) (offset : BitVec 16) : EncodingShape.Statement (.atomicAdd64 dst src offset) :=
  .inl ⟨_, rfl, (by decide : (0xdb : BitVec 8) ≠ 0x18)⟩
theorem EncodingShape.atomicOr64 (dst src : Reg) (offset : BitVec 16) : EncodingShape.Statement (.atomicOr64 dst src offset) :=
  .inl ⟨_, rfl, (by decide : (0xdb : BitVec 8) ≠ 0x18)⟩
theorem EncodingShape.atomicAnd64 (dst src : Reg) (offset : BitVec 16) : EncodingShape.Statement (.atomicAnd64 dst src offset) :=
  .inl ⟨_, rfl, (by decide : (0xdb : BitVec 8) ≠ 0x18)⟩
theorem EncodingShape.atomicXor64 (dst src : Reg) (offset : BitVec 16) : EncodingShape.Statement (.atomicXor64 dst src offset) :=
  .inl ⟨_, rfl, (by decide : (0xdb : BitVec 8) ≠ 0x18)⟩
theorem EncodingShape.atomicFetchAdd64 (dst src : Reg) (offset : BitVec 16) : EncodingShape.Statement (.atomicFetchAdd64 dst src offset) :=
  .inl ⟨_, rfl, (by decide : (0xdb : BitVec 8) ≠ 0x18)⟩
theorem EncodingShape.atomicFetchOr64 (dst src : Reg) (offset : BitVec 16) : EncodingShape.Statement (.atomicFetchOr64 dst src offset) :=
  .inl ⟨_, rfl, (by decide : (0xdb : BitVec 8) ≠ 0x18)⟩
theorem EncodingShape.atomicFetchAnd64 (dst src : Reg) (offset : BitVec 16) : EncodingShape.Statement (.atomicFetchAnd64 dst src offset) :=
  .inl ⟨_, rfl, (by decide : (0xdb : BitVec 8) ≠ 0x18)⟩
theorem EncodingShape.atomicFetchXor64 (dst src : Reg) (offset : BitVec 16) : EncodingShape.Statement (.atomicFetchXor64 dst src offset) :=
  .inl ⟨_, rfl, (by decide : (0xdb : BitVec 8) ≠ 0x18)⟩
theorem EncodingShape.atomicXchg64 (dst src : Reg) (offset : BitVec 16) : EncodingShape.Statement (.atomicXchg64 dst src offset) :=
  .inl ⟨_, rfl, (by decide : (0xdb : BitVec 8) ≠ 0x18)⟩
theorem EncodingShape.atomicCmpxchg64 (dst src : Reg) (offset : BitVec 16) : EncodingShape.Statement (.atomicCmpxchg64 dst src offset) :=
  .inl ⟨_, rfl, (by decide : (0xdb : BitVec 8) ≠ 0x18)⟩
theorem EncodingShape.lddw (dst : Reg) (imm nextImm : Word32) : EncodingShape.Statement (.lddw dst imm nextImm) :=
  .inr ⟨_, _, rfl, rfl⟩
theorem EncodingShape.ldMapFd (dst : Reg) (imm : Word32) : EncodingShape.Statement (.ldMapFd dst imm) :=
  .inr ⟨_, _, rfl, rfl⟩
theorem EncodingShape.ldMapValFd (dst : Reg) (imm nextImm : Word32) : EncodingShape.Statement (.ldMapValFd dst imm nextImm) :=
  .inr ⟨_, _, rfl, rfl⟩
theorem EncodingShape.ldVarAddr (dst : Reg) (imm : Word32) : EncodingShape.Statement (.ldVarAddr dst imm) :=
  .inr ⟨_, _, rfl, rfl⟩
theorem EncodingShape.ldCodeAddr (dst : Reg) (imm : Word32) : EncodingShape.Statement (.ldCodeAddr dst imm) :=
  .inr ⟨_, _, rfl, rfl⟩
theorem EncodingShape.ldMapIdx (dst : Reg) (imm : Word32) : EncodingShape.Statement (.ldMapIdx dst imm) :=
  .inr ⟨_, _, rfl, rfl⟩
theorem EncodingShape.ldMapValIdx (dst : Reg) (imm nextImm : Word32) : EncodingShape.Statement (.ldMapValIdx dst imm nextImm) :=
  .inr ⟨_, _, rfl, rfl⟩
theorem EncodingShape.imm64SecondSlot (nextImm : Word32) : EncodingShape.Statement (.imm64SecondSlot nextImm) :=
  .inl ⟨_, rfl, (by decide : (0x00 : BitVec 8) ≠ 0x18)⟩
theorem EncodingShape.ldabsw (imm : Word32) : EncodingShape.Statement (.ldabsw imm) :=
  .inl ⟨_, rfl, (by decide : (0x20 : BitVec 8) ≠ 0x18)⟩
theorem EncodingShape.ldabsh (imm : Word32) : EncodingShape.Statement (.ldabsh imm) :=
  .inl ⟨_, rfl, (by decide : (0x28 : BitVec 8) ≠ 0x18)⟩
theorem EncodingShape.ldabsb (imm : Word32) : EncodingShape.Statement (.ldabsb imm) :=
  .inl ⟨_, rfl, (by decide : (0x30 : BitVec 8) ≠ 0x18)⟩
theorem EncodingShape.ldindw (src : Reg) (imm : Word32) : EncodingShape.Statement (.ldindw src imm) :=
  .inl ⟨_, rfl, (by decide : (0x40 : BitVec 8) ≠ 0x18)⟩
theorem EncodingShape.ldindh (src : Reg) (imm : Word32) : EncodingShape.Statement (.ldindh src imm) :=
  .inl ⟨_, rfl, (by decide : (0x48 : BitVec 8) ≠ 0x18)⟩
theorem EncodingShape.ldindb (src : Reg) (imm : Word32) : EncodingShape.Statement (.ldindb src imm) :=
  .inl ⟨_, rfl, (by decide : (0x50 : BitVec 8) ≠ 0x18)⟩

end Sys2Proof.Laws
end

