-- ==== Sys2Proof/Tests/Slice0.lean ====
section
/-! SUPPORT. The model's own tests: the WellFormed smoke test, the words and results of the spec's vector tables, and a
witness for the hypotheses of every statement. -/

namespace Sys2Proof.Tests

open Sys2Proof.Machine Sys2Proof.Spec

/-- The decoder reads the instruction from its slots in both byte orders, and its encoding has the same slots. -/
def decodes (rows : List (List Slot × List Slot × Instr)) : Bool :=
  rows.all fun (le, be, i) =>
    (match decodeProgram .little le with
      | .ok j => i == j
      | .error _ => false)
    && (match decodeProgram .big be with
      | .ok j => i == j
      | .error _ => false)
    && encodeSlots .little i == le && encodeSlots .big i == be

/-- One row of a vector table: an instruction, what it depends on, and what it leaves. Registers not named hold no value,
before and after. -/
structure Row where
  i : Instr
  endian : Endian := .little
  regs : List (Reg × Word) := []
  mem : Memory := []
  pc : Int := 0
  cs : List Frame := []
  mapByFd : List (Word32 × Word) := []
  mapByIdx : List (Word32 × Word) := []
  mapVal : List (Word × Word) := []
  varAddr : List (Word32 × Word) := []
  codeAddr : List ((Int × Int) × Word) := []
  regs' : List (Reg × Word) := []
  mem' : Memory := []
  pc' : Int
  cs' : List Frame := []
  status' : Status := .running

/-- The state a row starts from. -/
def Row.start (r : Row) : State where
  regs := RegFile.entry r.regs
  pc := r.pc
  cs := r.cs
  mem := r.mem
  status := .running
  params := { Params.default with
    hostEndian := r.endian, mapByFd := r.mapByFd, mapByIdx := r.mapByIdx, mapVal := r.mapVal, varAddr := r.varAddr
    codeAddr := r.codeAddr }
  ticks := 0

/-- Executing the instruction of each row leaves what the row says. -/
def runs (rows : List Row) : Bool :=
  rows.all fun r =>
    match exec r.i r.start with
    | .next t =>
      t.regs == RegFile.entry r.regs' && t.mem == r.mem' && t.pc == r.pc' && t.cs == r.cs' && t.status == r.status'
    | _ => false

/-! WellFormed -/

theorem test_second_slot_ill_formed : (Instr.imm64SecondSlot 5).wellFormed = false := rfl

theorem test_lddw_well_formed : (Instr.lddw 1 5 6).wellFormed = true := rfl

/-! Decoding -/

/-- Table V-alu32 of 96_test_vectors_families.md: the bytes of each row, little-endian then big-endian. -/
theorem test_decode_alu32_1 : decodes [
    ([⟨0x04, 0x01, 0x00, 0x00, 0x01, 0x00, 0x00, 0x00⟩], [⟨0x04, 0x10, 0x00, 0x00, 0x00, 0x00, 0x00, 0x01⟩], .add32K
      1 1),
    ([⟨0x0c, 0x21, 0x00, 0x00, 0x00, 0x00, 0x00, 0x00⟩], [⟨0x0c, 0x12, 0x00, 0x00, 0x00, 0x00, 0x00, 0x00⟩], .add32X
      1 2),
    ([⟨0x14, 0x01, 0x00, 0x00, 0x01, 0x00, 0x00, 0x00⟩], [⟨0x14, 0x10, 0x00, 0x00, 0x00, 0x00, 0x00, 0x01⟩], .sub32K
      1 1),
    ([⟨0x1c, 0x21, 0x00, 0x00, 0x00, 0x00, 0x00, 0x00⟩], [⟨0x1c, 0x12, 0x00, 0x00, 0x00, 0x00, 0x00, 0x00⟩], .sub32X
      1 2),
    ([⟨0x24, 0x01, 0x00, 0x00, 0x02, 0x00, 0x00, 0x00⟩], [⟨0x24, 0x10, 0x00, 0x00, 0x00, 0x00, 0x00, 0x02⟩], .mul32K
      1 2),
    ([⟨0x2c, 0x21, 0x00, 0x00, 0x00, 0x00, 0x00, 0x00⟩], [⟨0x2c, 0x12, 0x00, 0x00, 0x00, 0x00, 0x00, 0x00⟩], .mul32X
      1 2),
    ([⟨0x34, 0x01, 0x00, 0x00, 0x02, 0x00, 0x00, 0x00⟩], [⟨0x34, 0x10, 0x00, 0x00, 0x00, 0x00, 0x00, 0x02⟩], .div32K
      1 2),
    ([⟨0x3c, 0x21, 0x00, 0x00, 0x00, 0x00, 0x00, 0x00⟩], [⟨0x3c, 0x12, 0x00, 0x00, 0x00, 0x00, 0x00, 0x00⟩], .div32X
      1 2),
    ([⟨0x34, 0x01, 0x01, 0x00, 0x02, 0x00, 0x00, 0x00⟩], [⟨0x34, 0x10, 0x00, 0x01, 0x00, 0x00, 0x00, 0x02⟩],
      .sdiv32K 1 2),
    ([⟨0x3c, 0x21, 0x01, 0x00, 0x00, 0x00, 0x00, 0x00⟩], [⟨0x3c, 0x12, 0x00, 0x01, 0x00, 0x00, 0x00, 0x00⟩],
      .sdiv32X 1 2),
    ([⟨0x44, 0x01, 0x00, 0x00, 0x0f, 0x0f, 0x0f, 0x0f⟩], [⟨0x44, 0x10, 0x00, 0x00, 0x0f, 0x0f, 0x0f, 0x0f⟩], .or32K
      1 0xf0f0f0f),
    ([⟨0x4c, 0x21, 0x00, 0x00, 0x00, 0x00, 0x00, 0x00⟩], [⟨0x4c, 0x12, 0x00, 0x00, 0x00, 0x00, 0x00, 0x00⟩], .or32X
      1 2),
    ([⟨0x54, 0x01, 0x00, 0x00, 0xff, 0xff, 0x00, 0x00⟩], [⟨0x54, 0x10, 0x00, 0x00, 0x00, 0x00, 0xff, 0xff⟩], .and32K
      1 0xffff),
    ([⟨0x5c, 0x21, 0x00, 0x00, 0x00, 0x00, 0x00, 0x00⟩], [⟨0x5c, 0x12, 0x00, 0x00, 0x00, 0x00, 0x00, 0x00⟩], .and32X
      1 2),
    ([⟨0x64, 0x01, 0x00, 0x00, 0x01, 0x00, 0x00, 0x00⟩], [⟨0x64, 0x10, 0x00, 0x00, 0x00, 0x00, 0x00, 0x01⟩], .lsh32K
      1 1),
    ([⟨0x6c, 0x21, 0x00, 0x00, 0x00, 0x00, 0x00, 0x00⟩], [⟨0x6c, 0x12, 0x00, 0x00, 0x00, 0x00, 0x00, 0x00⟩], .lsh32X
      1 2)] = true := by decide

/-- Table V-alu32 of 96_test_vectors_families.md: the bytes of each row, little-endian then big-endian. -/
theorem test_decode_alu32_2 : decodes [
    ([⟨0x74, 0x01, 0x00, 0x00, 0x1f, 0x00, 0x00, 0x00⟩], [⟨0x74, 0x10, 0x00, 0x00, 0x00, 0x00, 0x00, 0x1f⟩], .rsh32K
      1 0x1f),
    ([⟨0x7c, 0x21, 0x00, 0x00, 0x00, 0x00, 0x00, 0x00⟩], [⟨0x7c, 0x12, 0x00, 0x00, 0x00, 0x00, 0x00, 0x00⟩], .rsh32X
      1 2),
    ([⟨0x84, 0x01, 0x00, 0x00, 0x00, 0x00, 0x00, 0x00⟩], [⟨0x84, 0x10, 0x00, 0x00, 0x00, 0x00, 0x00, 0x00⟩], .neg32
      1),
    ([⟨0x94, 0x01, 0x00, 0x00, 0x05, 0x00, 0x00, 0x00⟩], [⟨0x94, 0x10, 0x00, 0x00, 0x00, 0x00, 0x00, 0x05⟩], .mod32K
      1 5),
    ([⟨0x9c, 0x21, 0x00, 0x00, 0x00, 0x00, 0x00, 0x00⟩], [⟨0x9c, 0x12, 0x00, 0x00, 0x00, 0x00, 0x00, 0x00⟩], .mod32X
      1 2),
    ([⟨0x94, 0x01, 0x01, 0x00, 0x03, 0x00, 0x00, 0x00⟩], [⟨0x94, 0x10, 0x00, 0x01, 0x00, 0x00, 0x00, 0x03⟩],
      .smod32K 1 3),
    ([⟨0x9c, 0x21, 0x01, 0x00, 0x00, 0x00, 0x00, 0x00⟩], [⟨0x9c, 0x12, 0x00, 0x01, 0x00, 0x00, 0x00, 0x00⟩],
      .smod32X 1 2),
    ([⟨0xa4, 0x01, 0x00, 0x00, 0x0f, 0x0f, 0x0f, 0x0f⟩], [⟨0xa4, 0x10, 0x00, 0x00, 0x0f, 0x0f, 0x0f, 0x0f⟩], .xor32K
      1 0xf0f0f0f),
    ([⟨0xac, 0x21, 0x00, 0x00, 0x00, 0x00, 0x00, 0x00⟩], [⟨0xac, 0x12, 0x00, 0x00, 0x00, 0x00, 0x00, 0x00⟩], .xor32X
      1 2),
    ([⟨0xb4, 0x01, 0x00, 0x00, 0xff, 0xff, 0xff, 0xff⟩], [⟨0xb4, 0x10, 0x00, 0x00, 0xff, 0xff, 0xff, 0xff⟩], .mov32K
      1 0xffffffff),
    ([⟨0xbc, 0x21, 0x00, 0x00, 0x00, 0x00, 0x00, 0x00⟩], [⟨0xbc, 0x12, 0x00, 0x00, 0x00, 0x00, 0x00, 0x00⟩], .mov32X
      1 2),
    ([⟨0xbc, 0x21, 0x08, 0x00, 0x00, 0x00, 0x00, 0x00⟩], [⟨0xbc, 0x12, 0x00, 0x08, 0x00, 0x00, 0x00, 0x00⟩],
      .movsx32_8 1 2),
    ([⟨0xbc, 0x21, 0x10, 0x00, 0x00, 0x00, 0x00, 0x00⟩], [⟨0xbc, 0x12, 0x00, 0x10, 0x00, 0x00, 0x00, 0x00⟩],
      .movsx32_16 1 2),
    ([⟨0xc4, 0x01, 0x00, 0x00, 0x04, 0x00, 0x00, 0x00⟩], [⟨0xc4, 0x10, 0x00, 0x00, 0x00, 0x00, 0x00, 0x04⟩],
      .arsh32K 1 4),
    ([⟨0xcc, 0x21, 0x00, 0x00, 0x00, 0x00, 0x00, 0x00⟩], [⟨0xcc, 0x12, 0x00, 0x00, 0x00, 0x00, 0x00, 0x00⟩],
      .arsh32X 1 2)] = true := by decide

/-- Table V-alu64 of 96_test_vectors_families.md: the bytes of each row, little-endian then big-endian. -/
theorem test_decode_alu64_1 : decodes [
    ([⟨0x07, 0x01, 0x00, 0x00, 0xff, 0xff, 0xff, 0xff⟩], [⟨0x07, 0x10, 0x00, 0x00, 0xff, 0xff, 0xff, 0xff⟩], .add64K
      1 0xffffffff),
    ([⟨0x0f, 0x21, 0x00, 0x00, 0x00, 0x00, 0x00, 0x00⟩], [⟨0x0f, 0x12, 0x00, 0x00, 0x00, 0x00, 0x00, 0x00⟩], .add64X
      1 2),
    ([⟨0x17, 0x01, 0x00, 0x00, 0x01, 0x00, 0x00, 0x00⟩], [⟨0x17, 0x10, 0x00, 0x00, 0x00, 0x00, 0x00, 0x01⟩], .sub64K
      1 1),
    ([⟨0x1f, 0x21, 0x00, 0x00, 0x00, 0x00, 0x00, 0x00⟩], [⟨0x1f, 0x12, 0x00, 0x00, 0x00, 0x00, 0x00, 0x00⟩], .sub64X
      1 2),
    ([⟨0x27, 0x01, 0x00, 0x00, 0xfe, 0xff, 0xff, 0xff⟩], [⟨0x27, 0x10, 0x00, 0x00, 0xff, 0xff, 0xff, 0xfe⟩], .mul64K
      1 0xfffffffe),
    ([⟨0x2f, 0x21, 0x00, 0x00, 0x00, 0x00, 0x00, 0x00⟩], [⟨0x2f, 0x12, 0x00, 0x00, 0x00, 0x00, 0x00, 0x00⟩], .mul64X
      1 2),
    ([⟨0x37, 0x01, 0x00, 0x00, 0xff, 0xff, 0xff, 0xff⟩], [⟨0x37, 0x10, 0x00, 0x00, 0xff, 0xff, 0xff, 0xff⟩], .div64K
      1 0xffffffff),
    ([⟨0x3f, 0x21, 0x00, 0x00, 0x00, 0x00, 0x00, 0x00⟩], [⟨0x3f, 0x12, 0x00, 0x00, 0x00, 0x00, 0x00, 0x00⟩], .div64X
      1 2),
    ([⟨0x37, 0x01, 0x01, 0x00, 0x02, 0x00, 0x00, 0x00⟩], [⟨0x37, 0x10, 0x00, 0x01, 0x00, 0x00, 0x00, 0x02⟩],
      .sdiv64K 1 2),
    ([⟨0x3f, 0x21, 0x01, 0x00, 0x00, 0x00, 0x00, 0x00⟩], [⟨0x3f, 0x12, 0x00, 0x01, 0x00, 0x00, 0x00, 0x00⟩],
      .sdiv64X 1 2),
    ([⟨0x47, 0x01, 0x00, 0x00, 0x00, 0x00, 0x00, 0x80⟩], [⟨0x47, 0x10, 0x00, 0x00, 0x80, 0x00, 0x00, 0x00⟩], .or64K
      1 0x80000000),
    ([⟨0x4f, 0x21, 0x00, 0x00, 0x00, 0x00, 0x00, 0x00⟩], [⟨0x4f, 0x12, 0x00, 0x00, 0x00, 0x00, 0x00, 0x00⟩], .or64X
      1 2),
    ([⟨0x57, 0x01, 0x00, 0x00, 0x00, 0x00, 0xff, 0xff⟩], [⟨0x57, 0x10, 0x00, 0x00, 0xff, 0xff, 0x00, 0x00⟩], .and64K
      1 0xffff0000),
    ([⟨0x5f, 0x21, 0x00, 0x00, 0x00, 0x00, 0x00, 0x00⟩], [⟨0x5f, 0x12, 0x00, 0x00, 0x00, 0x00, 0x00, 0x00⟩], .and64X
      1 2),
    ([⟨0x67, 0x01, 0x00, 0x00, 0x3f, 0x00, 0x00, 0x00⟩], [⟨0x67, 0x10, 0x00, 0x00, 0x00, 0x00, 0x00, 0x3f⟩], .lsh64K
      1 0x3f),
    ([⟨0x6f, 0x21, 0x00, 0x00, 0x00, 0x00, 0x00, 0x00⟩], [⟨0x6f, 0x12, 0x00, 0x00, 0x00, 0x00, 0x00, 0x00⟩], .lsh64X
      1 2)] = true := by decide

/-- Table V-alu64 of 96_test_vectors_families.md: the bytes of each row, little-endian then big-endian. -/
theorem test_decode_alu64_2 : decodes [
    ([⟨0x77, 0x01, 0x00, 0x00, 0x3f, 0x00, 0x00, 0x00⟩], [⟨0x77, 0x10, 0x00, 0x00, 0x00, 0x00, 0x00, 0x3f⟩], .rsh64K
      1 0x3f),
    ([⟨0x7f, 0x21, 0x00, 0x00, 0x00, 0x00, 0x00, 0x00⟩], [⟨0x7f, 0x12, 0x00, 0x00, 0x00, 0x00, 0x00, 0x00⟩], .rsh64X
      1 2),
    ([⟨0x87, 0x01, 0x00, 0x00, 0x00, 0x00, 0x00, 0x00⟩], [⟨0x87, 0x10, 0x00, 0x00, 0x00, 0x00, 0x00, 0x00⟩], .neg64
      1),
    ([⟨0x97, 0x01, 0x00, 0x00, 0x05, 0x00, 0x00, 0x00⟩], [⟨0x97, 0x10, 0x00, 0x00, 0x00, 0x00, 0x00, 0x05⟩], .mod64K
      1 5),
    ([⟨0x9f, 0x21, 0x00, 0x00, 0x00, 0x00, 0x00, 0x00⟩], [⟨0x9f, 0x12, 0x00, 0x00, 0x00, 0x00, 0x00, 0x00⟩], .mod64X
      1 2),
    ([⟨0x97, 0x01, 0x01, 0x00, 0x03, 0x00, 0x00, 0x00⟩], [⟨0x97, 0x10, 0x00, 0x01, 0x00, 0x00, 0x00, 0x03⟩],
      .smod64K 1 3),
    ([⟨0x9f, 0x21, 0x01, 0x00, 0x00, 0x00, 0x00, 0x00⟩], [⟨0x9f, 0x12, 0x00, 0x01, 0x00, 0x00, 0x00, 0x00⟩],
      .smod64X 1 2),
    ([⟨0xa7, 0x01, 0x00, 0x00, 0xff, 0xff, 0xff, 0xff⟩], [⟨0xa7, 0x10, 0x00, 0x00, 0xff, 0xff, 0xff, 0xff⟩], .xor64K
      1 0xffffffff),
    ([⟨0xaf, 0x21, 0x00, 0x00, 0x00, 0x00, 0x00, 0x00⟩], [⟨0xaf, 0x12, 0x00, 0x00, 0x00, 0x00, 0x00, 0x00⟩], .xor64X
      1 2),
    ([⟨0xb7, 0x01, 0x00, 0x00, 0xff, 0xff, 0xff, 0xff⟩], [⟨0xb7, 0x10, 0x00, 0x00, 0xff, 0xff, 0xff, 0xff⟩], .mov64K
      1 0xffffffff),
    ([⟨0xbf, 0x21, 0x00, 0x00, 0x00, 0x00, 0x00, 0x00⟩], [⟨0xbf, 0x12, 0x00, 0x00, 0x00, 0x00, 0x00, 0x00⟩], .mov64X
      1 2),
    ([⟨0xbf, 0x21, 0x08, 0x00, 0x00, 0x00, 0x00, 0x00⟩], [⟨0xbf, 0x12, 0x00, 0x08, 0x00, 0x00, 0x00, 0x00⟩],
      .movsx64_8 1 2),
    ([⟨0xbf, 0x21, 0x10, 0x00, 0x00, 0x00, 0x00, 0x00⟩], [⟨0xbf, 0x12, 0x00, 0x10, 0x00, 0x00, 0x00, 0x00⟩],
      .movsx64_16 1 2),
    ([⟨0xbf, 0x21, 0x20, 0x00, 0x00, 0x00, 0x00, 0x00⟩], [⟨0xbf, 0x12, 0x00, 0x20, 0x00, 0x00, 0x00, 0x00⟩],
      .movsx64_32 1 2),
    ([⟨0xc7, 0x01, 0x00, 0x00, 0x3f, 0x00, 0x00, 0x00⟩], [⟨0xc7, 0x10, 0x00, 0x00, 0x00, 0x00, 0x00, 0x3f⟩],
      .arsh64K 1 0x3f),
    ([⟨0xcf, 0x21, 0x00, 0x00, 0x00, 0x00, 0x00, 0x00⟩], [⟨0xcf, 0x12, 0x00, 0x00, 0x00, 0x00, 0x00, 0x00⟩],
      .arsh64X 1 2)] = true := by decide

/-- Table V-byteswap of 96_test_vectors_families.md: the bytes of each row, little-endian then big-endian. -/
theorem test_decode_byteSwap_1 : decodes [
    ([⟨0xd4, 0x01, 0x00, 0x00, 0x10, 0x00, 0x00, 0x00⟩], [⟨0xd4, 0x10, 0x00, 0x00, 0x00, 0x00, 0x00, 0x10⟩], .le16
      1),
    ([⟨0xd4, 0x01, 0x00, 0x00, 0x20, 0x00, 0x00, 0x00⟩], [⟨0xd4, 0x10, 0x00, 0x00, 0x00, 0x00, 0x00, 0x20⟩], .le32
      1),
    ([⟨0xd4, 0x01, 0x00, 0x00, 0x40, 0x00, 0x00, 0x00⟩], [⟨0xd4, 0x10, 0x00, 0x00, 0x00, 0x00, 0x00, 0x40⟩], .le64
      1),
    ([⟨0xdc, 0x01, 0x00, 0x00, 0x10, 0x00, 0x00, 0x00⟩], [⟨0xdc, 0x10, 0x00, 0x00, 0x00, 0x00, 0x00, 0x10⟩], .be16
      1),
    ([⟨0xdc, 0x01, 0x00, 0x00, 0x20, 0x00, 0x00, 0x00⟩], [⟨0xdc, 0x10, 0x00, 0x00, 0x00, 0x00, 0x00, 0x20⟩], .be32
      1),
    ([⟨0xdc, 0x01, 0x00, 0x00, 0x40, 0x00, 0x00, 0x00⟩], [⟨0xdc, 0x10, 0x00, 0x00, 0x00, 0x00, 0x00, 0x40⟩], .be64
      1),
    ([⟨0xd7, 0x01, 0x00, 0x00, 0x10, 0x00, 0x00, 0x00⟩], [⟨0xd7, 0x10, 0x00, 0x00, 0x00, 0x00, 0x00, 0x10⟩],
      .bswap16 1),
    ([⟨0xd7, 0x01, 0x00, 0x00, 0x20, 0x00, 0x00, 0x00⟩], [⟨0xd7, 0x10, 0x00, 0x00, 0x00, 0x00, 0x00, 0x20⟩],
      .bswap32 1),
    ([⟨0xd7, 0x01, 0x00, 0x00, 0x40, 0x00, 0x00, 0x00⟩], [⟨0xd7, 0x10, 0x00, 0x00, 0x00, 0x00, 0x00, 0x40⟩],
      .bswap64 1)] = true := by decide

/-- Table V-jump of 96_test_vectors_families.md: the bytes of each row, little-endian then big-endian. -/
theorem test_decode_jump_1 : decodes [
    ([⟨0x05, 0x00, 0xfd, 0xff, 0x00, 0x00, 0x00, 0x00⟩], [⟨0x05, 0x00, 0xff, 0xfd, 0x00, 0x00, 0x00, 0x00⟩], .ja
      0xfffd),
    ([⟨0x06, 0x00, 0x00, 0x00, 0x45, 0x23, 0x01, 0x00⟩], [⟨0x06, 0x00, 0x00, 0x00, 0x00, 0x01, 0x23, 0x45⟩], .ja32
      0x12345),
    ([⟨0x15, 0x01, 0x03, 0x00, 0x01, 0x00, 0x00, 0x00⟩], [⟨0x15, 0x10, 0x00, 0x03, 0x00, 0x00, 0x00, 0x01⟩], .jeq64K
      1 1 3),
    ([⟨0x1d, 0x21, 0x03, 0x00, 0x00, 0x00, 0x00, 0x00⟩], [⟨0x1d, 0x12, 0x00, 0x03, 0x00, 0x00, 0x00, 0x00⟩], .jeq64X
      1 2 3),
    ([⟨0x16, 0x01, 0x03, 0x00, 0x01, 0x00, 0x00, 0x00⟩], [⟨0x16, 0x10, 0x00, 0x03, 0x00, 0x00, 0x00, 0x01⟩], .jeq32K
      1 1 3),
    ([⟨0x1e, 0x21, 0x03, 0x00, 0x00, 0x00, 0x00, 0x00⟩], [⟨0x1e, 0x12, 0x00, 0x03, 0x00, 0x00, 0x00, 0x00⟩], .jeq32X
      1 2 3),
    ([⟨0x25, 0x01, 0x03, 0x00, 0x01, 0x00, 0x00, 0x00⟩], [⟨0x25, 0x10, 0x00, 0x03, 0x00, 0x00, 0x00, 0x01⟩], .jgt64K
      1 1 3),
    ([⟨0x2d, 0x21, 0x03, 0x00, 0x00, 0x00, 0x00, 0x00⟩], [⟨0x2d, 0x12, 0x00, 0x03, 0x00, 0x00, 0x00, 0x00⟩], .jgt64X
      1 2 3),
    ([⟨0x26, 0x01, 0x03, 0x00, 0x01, 0x00, 0x00, 0x00⟩], [⟨0x26, 0x10, 0x00, 0x03, 0x00, 0x00, 0x00, 0x01⟩], .jgt32K
      1 1 3),
    ([⟨0x2e, 0x21, 0x03, 0x00, 0x00, 0x00, 0x00, 0x00⟩], [⟨0x2e, 0x12, 0x00, 0x03, 0x00, 0x00, 0x00, 0x00⟩], .jgt32X
      1 2 3),
    ([⟨0x35, 0x01, 0x03, 0x00, 0x01, 0x00, 0x00, 0x00⟩], [⟨0x35, 0x10, 0x00, 0x03, 0x00, 0x00, 0x00, 0x01⟩], .jge64K
      1 1 3),
    ([⟨0x3d, 0x21, 0x03, 0x00, 0x00, 0x00, 0x00, 0x00⟩], [⟨0x3d, 0x12, 0x00, 0x03, 0x00, 0x00, 0x00, 0x00⟩], .jge64X
      1 2 3),
    ([⟨0x36, 0x01, 0x03, 0x00, 0x01, 0x00, 0x00, 0x00⟩], [⟨0x36, 0x10, 0x00, 0x03, 0x00, 0x00, 0x00, 0x01⟩], .jge32K
      1 1 3),
    ([⟨0x3e, 0x21, 0x03, 0x00, 0x00, 0x00, 0x00, 0x00⟩], [⟨0x3e, 0x12, 0x00, 0x03, 0x00, 0x00, 0x00, 0x00⟩], .jge32X
      1 2 3),
    ([⟨0x45, 0x01, 0x03, 0x00, 0x01, 0x00, 0x00, 0x00⟩], [⟨0x45, 0x10, 0x00, 0x03, 0x00, 0x00, 0x00, 0x01⟩],
      .jset64K 1 1 3),
    ([⟨0x4d, 0x21, 0x03, 0x00, 0x00, 0x00, 0x00, 0x00⟩], [⟨0x4d, 0x12, 0x00, 0x03, 0x00, 0x00, 0x00, 0x00⟩],
      .jset64X 1 2 3)] = true := by decide

/-- Table V-jump of 96_test_vectors_families.md: the bytes of each row, little-endian then big-endian. -/
theorem test_decode_jump_2 : decodes [
    ([⟨0x46, 0x01, 0x03, 0x00, 0x01, 0x00, 0x00, 0x00⟩], [⟨0x46, 0x10, 0x00, 0x03, 0x00, 0x00, 0x00, 0x01⟩],
      .jset32K 1 1 3),
    ([⟨0x4e, 0x21, 0x03, 0x00, 0x00, 0x00, 0x00, 0x00⟩], [⟨0x4e, 0x12, 0x00, 0x03, 0x00, 0x00, 0x00, 0x00⟩],
      .jset32X 1 2 3),
    ([⟨0x55, 0x01, 0x03, 0x00, 0x01, 0x00, 0x00, 0x00⟩], [⟨0x55, 0x10, 0x00, 0x03, 0x00, 0x00, 0x00, 0x01⟩], .jne64K
      1 1 3),
    ([⟨0x5d, 0x21, 0x03, 0x00, 0x00, 0x00, 0x00, 0x00⟩], [⟨0x5d, 0x12, 0x00, 0x03, 0x00, 0x00, 0x00, 0x00⟩], .jne64X
      1 2 3),
    ([⟨0x56, 0x01, 0x03, 0x00, 0x01, 0x00, 0x00, 0x00⟩], [⟨0x56, 0x10, 0x00, 0x03, 0x00, 0x00, 0x00, 0x01⟩], .jne32K
      1 1 3),
    ([⟨0x5e, 0x21, 0x03, 0x00, 0x00, 0x00, 0x00, 0x00⟩], [⟨0x5e, 0x12, 0x00, 0x03, 0x00, 0x00, 0x00, 0x00⟩], .jne32X
      1 2 3),
    ([⟨0x65, 0x01, 0x03, 0x00, 0x01, 0x00, 0x00, 0x00⟩], [⟨0x65, 0x10, 0x00, 0x03, 0x00, 0x00, 0x00, 0x01⟩],
      .jsgt64K 1 1 3),
    ([⟨0x6d, 0x21, 0x03, 0x00, 0x00, 0x00, 0x00, 0x00⟩], [⟨0x6d, 0x12, 0x00, 0x03, 0x00, 0x00, 0x00, 0x00⟩],
      .jsgt64X 1 2 3),
    ([⟨0x66, 0x01, 0x03, 0x00, 0x01, 0x00, 0x00, 0x00⟩], [⟨0x66, 0x10, 0x00, 0x03, 0x00, 0x00, 0x00, 0x01⟩],
      .jsgt32K 1 1 3),
    ([⟨0x6e, 0x21, 0x03, 0x00, 0x00, 0x00, 0x00, 0x00⟩], [⟨0x6e, 0x12, 0x00, 0x03, 0x00, 0x00, 0x00, 0x00⟩],
      .jsgt32X 1 2 3),
    ([⟨0x75, 0x01, 0x03, 0x00, 0x01, 0x00, 0x00, 0x00⟩], [⟨0x75, 0x10, 0x00, 0x03, 0x00, 0x00, 0x00, 0x01⟩],
      .jsge64K 1 1 3),
    ([⟨0x7d, 0x21, 0x03, 0x00, 0x00, 0x00, 0x00, 0x00⟩], [⟨0x7d, 0x12, 0x00, 0x03, 0x00, 0x00, 0x00, 0x00⟩],
      .jsge64X 1 2 3),
    ([⟨0x76, 0x01, 0x03, 0x00, 0x01, 0x00, 0x00, 0x00⟩], [⟨0x76, 0x10, 0x00, 0x03, 0x00, 0x00, 0x00, 0x01⟩],
      .jsge32K 1 1 3),
    ([⟨0x7e, 0x21, 0x03, 0x00, 0x00, 0x00, 0x00, 0x00⟩], [⟨0x7e, 0x12, 0x00, 0x03, 0x00, 0x00, 0x00, 0x00⟩],
      .jsge32X 1 2 3),
    ([⟨0xa5, 0x01, 0x03, 0x00, 0x01, 0x00, 0x00, 0x00⟩], [⟨0xa5, 0x10, 0x00, 0x03, 0x00, 0x00, 0x00, 0x01⟩], .jlt64K
      1 1 3),
    ([⟨0xad, 0x21, 0x03, 0x00, 0x00, 0x00, 0x00, 0x00⟩], [⟨0xad, 0x12, 0x00, 0x03, 0x00, 0x00, 0x00, 0x00⟩], .jlt64X
      1 2 3)] = true := by decide

/-- Table V-jump of 96_test_vectors_families.md: the bytes of each row, little-endian then big-endian. -/
theorem test_decode_jump_3 : decodes [
    ([⟨0xa6, 0x01, 0x03, 0x00, 0x01, 0x00, 0x00, 0x00⟩], [⟨0xa6, 0x10, 0x00, 0x03, 0x00, 0x00, 0x00, 0x01⟩], .jlt32K
      1 1 3),
    ([⟨0xae, 0x21, 0x03, 0x00, 0x00, 0x00, 0x00, 0x00⟩], [⟨0xae, 0x12, 0x00, 0x03, 0x00, 0x00, 0x00, 0x00⟩], .jlt32X
      1 2 3),
    ([⟨0xb5, 0x01, 0x03, 0x00, 0x01, 0x00, 0x00, 0x00⟩], [⟨0xb5, 0x10, 0x00, 0x03, 0x00, 0x00, 0x00, 0x01⟩], .jle64K
      1 1 3),
    ([⟨0xbd, 0x21, 0x03, 0x00, 0x00, 0x00, 0x00, 0x00⟩], [⟨0xbd, 0x12, 0x00, 0x03, 0x00, 0x00, 0x00, 0x00⟩], .jle64X
      1 2 3),
    ([⟨0xb6, 0x01, 0x03, 0x00, 0x01, 0x00, 0x00, 0x00⟩], [⟨0xb6, 0x10, 0x00, 0x03, 0x00, 0x00, 0x00, 0x01⟩], .jle32K
      1 1 3),
    ([⟨0xbe, 0x21, 0x03, 0x00, 0x00, 0x00, 0x00, 0x00⟩], [⟨0xbe, 0x12, 0x00, 0x03, 0x00, 0x00, 0x00, 0x00⟩], .jle32X
      1 2 3),
    ([⟨0xc5, 0x01, 0x03, 0x00, 0x01, 0x00, 0x00, 0x00⟩], [⟨0xc5, 0x10, 0x00, 0x03, 0x00, 0x00, 0x00, 0x01⟩],
      .jslt64K 1 1 3),
    ([⟨0xcd, 0x21, 0x03, 0x00, 0x00, 0x00, 0x00, 0x00⟩], [⟨0xcd, 0x12, 0x00, 0x03, 0x00, 0x00, 0x00, 0x00⟩],
      .jslt64X 1 2 3),
    ([⟨0xc6, 0x01, 0x03, 0x00, 0x01, 0x00, 0x00, 0x00⟩], [⟨0xc6, 0x10, 0x00, 0x03, 0x00, 0x00, 0x00, 0x01⟩],
      .jslt32K 1 1 3),
    ([⟨0xce, 0x21, 0x03, 0x00, 0x00, 0x00, 0x00, 0x00⟩], [⟨0xce, 0x12, 0x00, 0x03, 0x00, 0x00, 0x00, 0x00⟩],
      .jslt32X 1 2 3),
    ([⟨0xd5, 0x01, 0x03, 0x00, 0x01, 0x00, 0x00, 0x00⟩], [⟨0xd5, 0x10, 0x00, 0x03, 0x00, 0x00, 0x00, 0x01⟩],
      .jsle64K 1 1 3),
    ([⟨0xdd, 0x21, 0x03, 0x00, 0x00, 0x00, 0x00, 0x00⟩], [⟨0xdd, 0x12, 0x00, 0x03, 0x00, 0x00, 0x00, 0x00⟩],
      .jsle64X 1 2 3),
    ([⟨0xd6, 0x01, 0x03, 0x00, 0x01, 0x00, 0x00, 0x00⟩], [⟨0xd6, 0x10, 0x00, 0x03, 0x00, 0x00, 0x00, 0x01⟩],
      .jsle32K 1 1 3),
    ([⟨0xde, 0x21, 0x03, 0x00, 0x00, 0x00, 0x00, 0x00⟩], [⟨0xde, 0x12, 0x00, 0x03, 0x00, 0x00, 0x00, 0x00⟩],
      .jsle32X 1 2 3),
    ([⟨0x85, 0x00, 0x00, 0x00, 0x06, 0x00, 0x00, 0x00⟩], [⟨0x85, 0x00, 0x00, 0x00, 0x00, 0x00, 0x00, 0x06⟩],
      .callHelper 6),
    ([⟨0x85, 0x10, 0x00, 0x00, 0x02, 0x00, 0x00, 0x00⟩], [⟨0x85, 0x01, 0x00, 0x00, 0x00, 0x00, 0x00, 0x02⟩],
      .callLocal 2)] = true := by decide

/-- Table V-jump of 96_test_vectors_families.md: the bytes of each row, little-endian then big-endian. -/
theorem test_decode_jump_4 : decodes [
    ([⟨0x85, 0x20, 0x00, 0x00, 0x34, 0x12, 0x00, 0x00⟩], [⟨0x85, 0x02, 0x00, 0x00, 0x00, 0x00, 0x12, 0x34⟩],
      .callBtf 0x1234),
    ([⟨0x95, 0x00, 0x00, 0x00, 0x00, 0x00, 0x00, 0x00⟩], [⟨0x95, 0x00, 0x00, 0x00, 0x00, 0x00, 0x00, 0x00⟩], .exit)] = true := by decide

/-- Table V-load_store of 96_test_vectors_families.md: the bytes of each row, little-endian then big-endian. -/
theorem test_decode_loadStore_1 : decodes [
    ([⟨0x61, 0x21, 0x08, 0x00, 0x00, 0x00, 0x00, 0x00⟩], [⟨0x61, 0x12, 0x00, 0x08, 0x00, 0x00, 0x00, 0x00⟩], .ldxw 1
      2 8),
    ([⟨0x69, 0x21, 0x08, 0x00, 0x00, 0x00, 0x00, 0x00⟩], [⟨0x69, 0x12, 0x00, 0x08, 0x00, 0x00, 0x00, 0x00⟩], .ldxh 1
      2 8),
    ([⟨0x71, 0x21, 0x08, 0x00, 0x00, 0x00, 0x00, 0x00⟩], [⟨0x71, 0x12, 0x00, 0x08, 0x00, 0x00, 0x00, 0x00⟩], .ldxb 1
      2 8),
    ([⟨0x79, 0x21, 0x08, 0x00, 0x00, 0x00, 0x00, 0x00⟩], [⟨0x79, 0x12, 0x00, 0x08, 0x00, 0x00, 0x00, 0x00⟩], .ldxdw
      1 2 8),
    ([⟨0x62, 0x01, 0xf8, 0xff, 0xfe, 0xff, 0xff, 0xff⟩], [⟨0x62, 0x10, 0xff, 0xf8, 0xff, 0xff, 0xff, 0xfe⟩], .stw 1
      0xfff8 0xfffffffe),
    ([⟨0x6a, 0x01, 0xf8, 0xff, 0xfe, 0xff, 0xff, 0xff⟩], [⟨0x6a, 0x10, 0xff, 0xf8, 0xff, 0xff, 0xff, 0xfe⟩], .sth 1
      0xfff8 0xfffffffe),
    ([⟨0x72, 0x01, 0xf8, 0xff, 0xff, 0x01, 0x00, 0x00⟩], [⟨0x72, 0x10, 0xff, 0xf8, 0x00, 0x00, 0x01, 0xff⟩], .stb 1
      0xfff8 0x1ff),
    ([⟨0x7a, 0x01, 0xf8, 0xff, 0xfe, 0xff, 0xff, 0xff⟩], [⟨0x7a, 0x10, 0xff, 0xf8, 0xff, 0xff, 0xff, 0xfe⟩], .stdw 1
      0xfff8 0xfffffffe),
    ([⟨0x63, 0x21, 0x00, 0x00, 0x00, 0x00, 0x00, 0x00⟩], [⟨0x63, 0x12, 0x00, 0x00, 0x00, 0x00, 0x00, 0x00⟩], .stxw 1
      2 0),
    ([⟨0x6b, 0x21, 0x00, 0x00, 0x00, 0x00, 0x00, 0x00⟩], [⟨0x6b, 0x12, 0x00, 0x00, 0x00, 0x00, 0x00, 0x00⟩], .stxh 1
      2 0),
    ([⟨0x73, 0x21, 0x00, 0x00, 0x00, 0x00, 0x00, 0x00⟩], [⟨0x73, 0x12, 0x00, 0x00, 0x00, 0x00, 0x00, 0x00⟩], .stxb 1
      2 0),
    ([⟨0x7b, 0x21, 0x00, 0x00, 0x00, 0x00, 0x00, 0x00⟩], [⟨0x7b, 0x12, 0x00, 0x00, 0x00, 0x00, 0x00, 0x00⟩], .stxdw
      1 2 0),
    ([⟨0x81, 0x21, 0x00, 0x00, 0x00, 0x00, 0x00, 0x00⟩], [⟨0x81, 0x12, 0x00, 0x00, 0x00, 0x00, 0x00, 0x00⟩], .ldxsw
      1 2 0),
    ([⟨0x89, 0x21, 0x00, 0x00, 0x00, 0x00, 0x00, 0x00⟩], [⟨0x89, 0x12, 0x00, 0x00, 0x00, 0x00, 0x00, 0x00⟩], .ldxsh
      1 2 0),
    ([⟨0x91, 0x21, 0x00, 0x00, 0x00, 0x00, 0x00, 0x00⟩], [⟨0x91, 0x12, 0x00, 0x00, 0x00, 0x00, 0x00, 0x00⟩], .ldxsb
      1 2 0)] = true := by decide

/-- Table V-atomic of 96_test_vectors_families.md: the bytes of each row, little-endian then big-endian. -/
theorem test_decode_atomic_1 : decodes [
    ([⟨0xc3, 0x21, 0x00, 0x00, 0x00, 0x00, 0x00, 0x00⟩], [⟨0xc3, 0x12, 0x00, 0x00, 0x00, 0x00, 0x00, 0x00⟩],
      .atomicAdd32 1 2 0),
    ([⟨0xc3, 0x21, 0x00, 0x00, 0x40, 0x00, 0x00, 0x00⟩], [⟨0xc3, 0x12, 0x00, 0x00, 0x00, 0x00, 0x00, 0x40⟩],
      .atomicOr32 1 2 0),
    ([⟨0xc3, 0x21, 0x00, 0x00, 0x50, 0x00, 0x00, 0x00⟩], [⟨0xc3, 0x12, 0x00, 0x00, 0x00, 0x00, 0x00, 0x50⟩],
      .atomicAnd32 1 2 0),
    ([⟨0xc3, 0x21, 0x00, 0x00, 0xa0, 0x00, 0x00, 0x00⟩], [⟨0xc3, 0x12, 0x00, 0x00, 0x00, 0x00, 0x00, 0xa0⟩],
      .atomicXor32 1 2 0),
    ([⟨0xc3, 0x21, 0x00, 0x00, 0x01, 0x00, 0x00, 0x00⟩], [⟨0xc3, 0x12, 0x00, 0x00, 0x00, 0x00, 0x00, 0x01⟩],
      .atomicFetchAdd32 1 2 0),
    ([⟨0xc3, 0x21, 0x00, 0x00, 0x41, 0x00, 0x00, 0x00⟩], [⟨0xc3, 0x12, 0x00, 0x00, 0x00, 0x00, 0x00, 0x41⟩],
      .atomicFetchOr32 1 2 0),
    ([⟨0xc3, 0x21, 0x00, 0x00, 0x51, 0x00, 0x00, 0x00⟩], [⟨0xc3, 0x12, 0x00, 0x00, 0x00, 0x00, 0x00, 0x51⟩],
      .atomicFetchAnd32 1 2 0),
    ([⟨0xc3, 0x21, 0x00, 0x00, 0xa1, 0x00, 0x00, 0x00⟩], [⟨0xc3, 0x12, 0x00, 0x00, 0x00, 0x00, 0x00, 0xa1⟩],
      .atomicFetchXor32 1 2 0),
    ([⟨0xc3, 0x21, 0x00, 0x00, 0xe1, 0x00, 0x00, 0x00⟩], [⟨0xc3, 0x12, 0x00, 0x00, 0x00, 0x00, 0x00, 0xe1⟩],
      .atomicXchg32 1 2 0),
    ([⟨0xc3, 0x21, 0x00, 0x00, 0xf1, 0x00, 0x00, 0x00⟩], [⟨0xc3, 0x12, 0x00, 0x00, 0x00, 0x00, 0x00, 0xf1⟩],
      .atomicCmpxchg32 1 2 0),
    ([⟨0xdb, 0x21, 0x00, 0x00, 0x00, 0x00, 0x00, 0x00⟩], [⟨0xdb, 0x12, 0x00, 0x00, 0x00, 0x00, 0x00, 0x00⟩],
      .atomicAdd64 1 2 0),
    ([⟨0xdb, 0x21, 0x00, 0x00, 0x40, 0x00, 0x00, 0x00⟩], [⟨0xdb, 0x12, 0x00, 0x00, 0x00, 0x00, 0x00, 0x40⟩],
      .atomicOr64 1 2 0),
    ([⟨0xdb, 0x21, 0x00, 0x00, 0x50, 0x00, 0x00, 0x00⟩], [⟨0xdb, 0x12, 0x00, 0x00, 0x00, 0x00, 0x00, 0x50⟩],
      .atomicAnd64 1 2 0),
    ([⟨0xdb, 0x21, 0x00, 0x00, 0xa0, 0x00, 0x00, 0x00⟩], [⟨0xdb, 0x12, 0x00, 0x00, 0x00, 0x00, 0x00, 0xa0⟩],
      .atomicXor64 1 2 0),
    ([⟨0xdb, 0x21, 0x00, 0x00, 0x01, 0x00, 0x00, 0x00⟩], [⟨0xdb, 0x12, 0x00, 0x00, 0x00, 0x00, 0x00, 0x01⟩],
      .atomicFetchAdd64 1 2 0),
    ([⟨0xdb, 0x21, 0x00, 0x00, 0x41, 0x00, 0x00, 0x00⟩], [⟨0xdb, 0x12, 0x00, 0x00, 0x00, 0x00, 0x00, 0x41⟩],
      .atomicFetchOr64 1 2 0)] = true := by decide

/-- Table V-atomic of 96_test_vectors_families.md: the bytes of each row, little-endian then big-endian. -/
theorem test_decode_atomic_2 : decodes [
    ([⟨0xdb, 0x21, 0x00, 0x00, 0x51, 0x00, 0x00, 0x00⟩], [⟨0xdb, 0x12, 0x00, 0x00, 0x00, 0x00, 0x00, 0x51⟩],
      .atomicFetchAnd64 1 2 0),
    ([⟨0xdb, 0x21, 0x00, 0x00, 0xa1, 0x00, 0x00, 0x00⟩], [⟨0xdb, 0x12, 0x00, 0x00, 0x00, 0x00, 0x00, 0xa1⟩],
      .atomicFetchXor64 1 2 0),
    ([⟨0xdb, 0x21, 0x00, 0x00, 0xe1, 0x00, 0x00, 0x00⟩], [⟨0xdb, 0x12, 0x00, 0x00, 0x00, 0x00, 0x00, 0xe1⟩],
      .atomicXchg64 1 2 0),
    ([⟨0xdb, 0x21, 0x00, 0x00, 0xf1, 0x00, 0x00, 0x00⟩], [⟨0xdb, 0x12, 0x00, 0x00, 0x00, 0x00, 0x00, 0xf1⟩],
      .atomicCmpxchg64 1 2 0)] = true := by decide

/-- Table V-imm64 of 96_test_vectors_families.md: the bytes of each row, little-endian then big-endian. -/
theorem test_decode_imm64_1 : decodes [
    ([⟨0x18, 0x01, 0x00, 0x00, 0x88, 0x77, 0x66, 0x55⟩, ⟨0x00, 0x00, 0x00, 0x00, 0x44, 0x33, 0x22, 0x11⟩], [⟨0x18,
      0x10, 0x00, 0x00, 0x55, 0x66, 0x77, 0x88⟩, ⟨0x00, 0x00, 0x00, 0x00, 0x11, 0x22, 0x33, 0x44⟩], .lddw 1 0x55667788
      0x11223344),
    ([⟨0x18, 0x11, 0x00, 0x00, 0x05, 0x00, 0x00, 0x00⟩, ⟨0x00, 0x00, 0x00, 0x00, 0x00, 0x00, 0x00, 0x00⟩], [⟨0x18,
      0x11, 0x00, 0x00, 0x00, 0x00, 0x00, 0x05⟩, ⟨0x00, 0x00, 0x00, 0x00, 0x00, 0x00, 0x00, 0x00⟩], .ldMapFd 1 5),
    ([⟨0x18, 0x21, 0x00, 0x00, 0x05, 0x00, 0x00, 0x00⟩, ⟨0x00, 0x00, 0x00, 0x00, 0x10, 0x00, 0x00, 0x00⟩], [⟨0x18,
      0x12, 0x00, 0x00, 0x00, 0x00, 0x00, 0x05⟩, ⟨0x00, 0x00, 0x00, 0x00, 0x00, 0x00, 0x00, 0x10⟩], .ldMapValFd 1 5
      0x10),
    ([⟨0x18, 0x31, 0x00, 0x00, 0x05, 0x00, 0x00, 0x00⟩, ⟨0x00, 0x00, 0x00, 0x00, 0x00, 0x00, 0x00, 0x00⟩], [⟨0x18,
      0x13, 0x00, 0x00, 0x00, 0x00, 0x00, 0x05⟩, ⟨0x00, 0x00, 0x00, 0x00, 0x00, 0x00, 0x00, 0x00⟩], .ldVarAddr 1 5),
    ([⟨0x18, 0x41, 0x00, 0x00, 0x05, 0x00, 0x00, 0x00⟩, ⟨0x00, 0x00, 0x00, 0x00, 0x00, 0x00, 0x00, 0x00⟩], [⟨0x18,
      0x14, 0x00, 0x00, 0x00, 0x00, 0x00, 0x05⟩, ⟨0x00, 0x00, 0x00, 0x00, 0x00, 0x00, 0x00, 0x00⟩], .ldCodeAddr 1 5),
    ([⟨0x18, 0x51, 0x00, 0x00, 0x05, 0x00, 0x00, 0x00⟩, ⟨0x00, 0x00, 0x00, 0x00, 0x00, 0x00, 0x00, 0x00⟩], [⟨0x18,
      0x15, 0x00, 0x00, 0x00, 0x00, 0x00, 0x05⟩, ⟨0x00, 0x00, 0x00, 0x00, 0x00, 0x00, 0x00, 0x00⟩], .ldMapIdx 1 5),
    ([⟨0x18, 0x61, 0x00, 0x00, 0x05, 0x00, 0x00, 0x00⟩, ⟨0x00, 0x00, 0x00, 0x00, 0x10, 0x00, 0x00, 0x00⟩], [⟨0x18,
      0x16, 0x00, 0x00, 0x00, 0x00, 0x00, 0x05⟩, ⟨0x00, 0x00, 0x00, 0x00, 0x00, 0x00, 0x00, 0x10⟩], .ldMapValIdx 1 5
      0x10)] = true := by decide

/-- Table V-packet of 96_test_vectors_families.md: the bytes of each row, little-endian then big-endian. -/
theorem test_decode_packet_1 : decodes [
    ([⟨0x20, 0x00, 0x00, 0x00, 0x0e, 0x00, 0x00, 0x00⟩], [⟨0x20, 0x00, 0x00, 0x00, 0x00, 0x00, 0x00, 0x0e⟩], .ldabsw
      0xe),
    ([⟨0x28, 0x00, 0x00, 0x00, 0x0e, 0x00, 0x00, 0x00⟩], [⟨0x28, 0x00, 0x00, 0x00, 0x00, 0x00, 0x00, 0x0e⟩], .ldabsh
      0xe),
    ([⟨0x30, 0x00, 0x00, 0x00, 0x0e, 0x00, 0x00, 0x00⟩], [⟨0x30, 0x00, 0x00, 0x00, 0x00, 0x00, 0x00, 0x0e⟩], .ldabsb
      0xe),
    ([⟨0x40, 0x30, 0x00, 0x00, 0x0e, 0x00, 0x00, 0x00⟩], [⟨0x40, 0x03, 0x00, 0x00, 0x00, 0x00, 0x00, 0x0e⟩], .ldindw
      3 0xe),
    ([⟨0x48, 0x30, 0x00, 0x00, 0x0e, 0x00, 0x00, 0x00⟩], [⟨0x48, 0x03, 0x00, 0x00, 0x00, 0x00, 0x00, 0x0e⟩], .ldindh
      3 0xe),
    ([⟨0x50, 0x30, 0x00, 0x00, 0x0e, 0x00, 0x00, 0x00⟩], [⟨0x50, 0x03, 0x00, 0x00, 0x00, 0x00, 0x00, 0x0e⟩], .ldindb
      3 0xe)] = true := by decide


/-- Rule R338: the second slot of a wide instruction, in little-endian and big-endian bytes. -/
theorem test_decode_second_slot :
    decodeSecondSlot (Slot.fields .little ⟨0, 0, 0, 0, 0x44, 0x33, 0x22, 0x11⟩) = some (.imm64SecondSlot 0x11223344) ∧
    decodeSecondSlot (Slot.fields .big ⟨0, 0, 0, 0, 0x11, 0x22, 0x33, 0x44⟩) = some (.imm64SecondSlot 0x11223344) ∧
    decodeSecondSlot (Slot.fields .little ⟨0, 1, 0, 0, 0x44, 0x33, 0x22, 0x11⟩) = none := by decide

/-- Rule R402: a reason of each kind. -/
theorem test_decode_reasons :
    decodeProgram .little [⟨0x18, 1, 0, 0, 0, 0, 0, 0⟩] = .error .truncated ∧
    decodeProgram .little [⟨0x18, 1, 0, 0, 0, 0, 0, 0⟩, ⟨0, 1, 0, 0, 0, 0, 0, 0⟩] = .error .badSecondSlot ∧
    decodeProgram .little [⟨0x8d, 0, 0, 0, 0, 0, 0, 0⟩] = .error .reserved ∧
    decodeProgram .little [⟨0x18, 0x11, 0, 0, 0, 0, 0, 0⟩, ⟨0, 0, 0, 0, 1, 0, 0, 0⟩] = .error .nonZeroUnused ∧
    decodeProgram .little [⟨0x07, 0x0b, 0, 0, 0, 0, 0, 0⟩] = .error .badRegister := ⟨rfl, rfl, rfl, rfl, rfl⟩

/-- The host's two entry points: a table word decodes, and runs as the first step after reset. -/
theorem test_table_word : decodeTableWord 64 0x1122334400000107 = some (.add64K 1 0x11223344) ∧
    (match step (State.reset.withFetchWord 64 0x1122334400000107) with
      | .next t => t.regs[(1 : Reg)] == some 0x11223344#64 && t.pc == 1
      | _ => false) = true := by decide

theorem test_table_word_wide : decodeTableWord 128 0x1122334400000000_5566778800000118 = some (.lddw 1 0x55667788 0x11223344) ∧
    (match step (State.reset.withFetchWord 128 0x1122334400000000_5566778800000118) with
      | .next t => t.regs[(1 : Reg)] == some 0x1122334455667788#64 && t.pc == 2
      | _ => false) = true := by decide

/-- Rule R404: from reset with nothing placed the first step raises BadPc(0) (log entry 5). -/
theorem test_reset_alone : (match step State.reset with
      | .next t => t.status == .faulted (.badPc 0)
      | _ => false) = true := by decide

/-! Execution -/

/-- Table V-alu32 of 96_test_vectors_families.md: one step each. -/
theorem test_exec_alu32_1 : runs [
    { i := .add32K 1 0xffffffff, regs := [(1, 0xaaaaaaaaffffffff)], regs' := [(1, 0xfffffffe)], pc' := 1 },
    { i := .add32K 1 1, regs := [(1, 0xaaaaaaaaffffffff)], regs' := [(1, 0)], pc' := 1 },
    { i := .add32X 1 2, regs := [(1, 0xaaaaaaaa7fffffff), (2, 0xbbbbbbbb00000001)], regs' := [(1, 0x80000000), (2,
      0xbbbbbbbb00000001)], pc' := 1 },
    { i := .add32X 1 2, regs := [(1, 0xaaaaaaaaffffffff), (2, 0xbbbbbbbbffffffff)], regs' := [(1, 0xfffffffe), (2,
      0xbbbbbbbbffffffff)], pc' := 1 },
    { i := .sub32K 1 1, regs := [(1, 0xaaaaaaaa00000000)], regs' := [(1, 0xffffffff)], pc' := 1 },
    { i := .sub32K 1 1, regs := [(1, 0xaaaaaaaa80000000)], regs' := [(1, 0x7fffffff)], pc' := 1 },
    { i := .sub32X 1 2, regs := [(1, 0xaaaaaaaa00000005), (2, 0xbbbbbbbb00000007)], regs' := [(1, 0xfffffffe), (2,
      0xbbbbbbbb00000007)], pc' := 1 },
    { i := .sub32X 1 2, regs := [(1, 0xaaaaaaaa80000000), (2, 0xbbbbbbbb00000001)], regs' := [(1, 0x7fffffff), (2,
      0xbbbbbbbb00000001)], pc' := 1 },
    { i := .mul32K 1 2, regs := [(1, 0xaaaaaaaa80000001)], regs' := [(1, 2)], pc' := 1 },
    { i := .mul32K 1 2, regs := [(1, 0xaaaaaaaaffffffff)], regs' := [(1, 0xfffffffe)], pc' := 1 },
    { i := .mul32X 1 2, regs := [(1, 0xaaaaaaaaffffffff), (2, 0xbbbbbbbbffffffff)], regs' := [(1, 1), (2,
      0xbbbbbbbbffffffff)], pc' := 1 },
    { i := .mul32X 1 2, regs := [(1, 0xaaaaaaaaffffffff), (2, 0xbbbbbbbb00000002)], regs' := [(1, 0xfffffffe), (2,
      0xbbbbbbbb00000002)], pc' := 1 }] = true := by decide

/-- Table V-alu32 of 96_test_vectors_families.md: one step each. -/
theorem test_exec_alu32_2 : runs [
    { i := .div32K 1 2, regs := [(1, 0xaaaaaaaafffffffe)], regs' := [(1, 0x7fffffff)], pc' := 1 },
    { i := .div32K 1 0xffffffff, regs := [(1, 0xaaaaaaaaffffffff)], regs' := [(1, 1)], pc' := 1 },
    { i := .div32X 1 2, regs := [(1, 0xaaaaaaaaffffffff), (2, 0xbbbbbbbbffffffff)], regs' := [(1, 1), (2,
      0xbbbbbbbbffffffff)], pc' := 1 },
    { i := .div32X 1 2, regs := [(1, 0xaaaaaaaa00000007), (2, 0xbbbbbbbb00000000)], regs' := [(1, 0), (2,
      0xbbbbbbbb00000000)], pc' := 1 },
    { i := .sdiv32K 1 2, regs := [(1, 0xaaaaaaaafffffff9)], regs' := [(1, 0xfffffffd)], pc' := 1 },
    { i := .sdiv32K 1 0xffffffff, regs := [(1, 0xaaaaaaaa80000000)], regs' := [(1, 0x80000000)], pc' := 1 },
    { i := .sdiv32X 1 2, regs := [(1, 0xaaaaaaaa80000000), (2, 0xbbbbbbbbffffffff)], regs' := [(1, 0x80000000), (2,
      0xbbbbbbbbffffffff)], pc' := 1 },
    { i := .sdiv32X 1 2, regs := [(1, 0xaaaaaaaa80000000), (2, 0xbbbbbbbbffffffff)], regs' := [(1, 0x80000000), (2,
      0xbbbbbbbbffffffff)], pc' := 1 },
    { i := .or32K 1 0xf0f0f0f, regs := [(1, 0xaaaaaaaaf0f0f0f0)], regs' := [(1, 0xffffffff)], pc' := 1 },
    { i := .or32K 1 0, regs := [(1, 0xaaaaaaaa00000000)], regs' := [(1, 0)], pc' := 1 },
    { i := .or32X 1 2, regs := [(1, 0xaaaaaaaa00000001), (2, 0xbbbbbbbb80000000)], regs' := [(1, 0x80000001), (2,
      0xbbbbbbbb80000000)], pc' := 1 },
    { i := .or32X 1 2, regs := [(1, 0xaaaaaaaa00000000), (2, 0xbbbbbbbb00000000)], regs' := [(1, 0), (2,
      0xbbbbbbbb00000000)], pc' := 1 }] = true := by decide

/-- Table V-alu32 of 96_test_vectors_families.md: one step each. -/
theorem test_exec_alu32_3 : runs [
    { i := .and32K 1 0xffff, regs := [(1, 0xaaaaaaaadeadbeef)], regs' := [(1, 0xbeef)], pc' := 1 },
    { i := .and32K 1 0, regs := [(1, 0xaaaaaaaaffffffff)], regs' := [(1, 0)], pc' := 1 },
    { i := .and32X 1 2, regs := [(1, 0xaaaaaaaadeadbeef), (2, 0xbbbbbbbbffff0000)], regs' := [(1, 0xdead0000), (2,
      0xbbbbbbbbffff0000)], pc' := 1 },
    { i := .and32X 1 2, regs := [(1, 0xaaaaaaaaffffffff), (2, 0xbbbbbbbb00000000)], regs' := [(1, 0), (2,
      0xbbbbbbbb00000000)], pc' := 1 },
    { i := .lsh32K 1 1, regs := [(1, 0xaaaaaaaa80000001)], regs' := [(1, 2)], pc' := 1 },
    { i := .lsh32K 1 0x1f, regs := [(1, 0xaaaaaaaaffffffff)], regs' := [(1, 0x80000000)], pc' := 1 },
    { i := .lsh32X 1 2, regs := [(1, 0xaaaaaaaa00000001), (2, 0xbbbbbbbb00000021)], regs' := [(1, 2), (2,
      0xbbbbbbbb00000021)], pc' := 1 },
    { i := .lsh32X 1 2, regs := [(1, 0xaaaaaaaaffffffff), (2, 0xbbbbbbbb0000001f)], regs' := [(1, 0x80000000), (2,
      0xbbbbbbbb0000001f)], pc' := 1 },
    { i := .rsh32K 1 0x1f, regs := [(1, 0xaaaaaaaa80000000)], regs' := [(1, 1)], pc' := 1 },
    { i := .rsh32K 1 0x1f, regs := [(1, 0xaaaaaaaaffffffff)], regs' := [(1, 1)], pc' := 1 },
    { i := .rsh32X 1 2, regs := [(1, 0xaaaaaaaa80000000), (2, 0xbbbbbbbb00000020)], regs' := [(1, 0x80000000), (2,
      0xbbbbbbbb00000020)], pc' := 1 },
    { i := .rsh32X 1 2, regs := [(1, 0xaaaaaaaaffffffff), (2, 0xbbbbbbbb0000001f)], regs' := [(1, 1), (2,
      0xbbbbbbbb0000001f)], pc' := 1 }] = true := by decide

/-- Table V-alu32 of 96_test_vectors_families.md: one step each. -/
theorem test_exec_alu32_4 : runs [
    { i := .neg32 1, regs := [(1, 0xaaaaaaaa00000001)], regs' := [(1, 0xffffffff)], pc' := 1 },
    { i := .neg32 1, regs := [(1, 0xaaaaaaaa80000000)], regs' := [(1, 0x80000000)], pc' := 1 },
    { i := .mod32K 1 5, regs := [(1, 0xaaaaaaaa0000000d)], regs' := [(1, 3)], pc' := 1 },
    { i := .mod32K 1 0, regs := [(1, 0xaaaaaaaaffffffff)], regs' := [(1, 0xffffffff)], pc' := 1 },
    { i := .mod32X 1 2, regs := [(1, 0xaaaaaaaa0000000d), (2, 0xbbbbbbbb00000000)], regs' := [(1, 0xd), (2,
      0xbbbbbbbb00000000)], pc' := 1 },
    { i := .mod32X 1 2, regs := [(1, 0xaaaaaaaaffffffff), (2, 0xbbbbbbbb00000000)], regs' := [(1, 0xffffffff), (2,
      0xbbbbbbbb00000000)], pc' := 1 },
    { i := .smod32K 1 3, regs := [(1, 0xaaaaaaaafffffff3)], regs' := [(1, 0xffffffff)], pc' := 1 },
    { i := .smod32K 1 0xfffffffd, regs := [(1, 0xaaaaaaaa0000000d)], regs' := [(1, 1)], pc' := 1 },
    { i := .smod32X 1 2, regs := [(1, 0xaaaaaaaa0000000d), (2, 0xbbbbbbbbfffffffd)], regs' := [(1, 1), (2,
      0xbbbbbbbbfffffffd)], pc' := 1 },
    { i := .smod32X 1 2, regs := [(1, 0xaaaaaaaa0000000d), (2, 0xbbbbbbbbfffffffd)], regs' := [(1, 1), (2,
      0xbbbbbbbbfffffffd)], pc' := 1 },
    { i := .xor32K 1 0xf0f0f0f, regs := [(1, 0xaaaaaaaaffffffff)], regs' := [(1, 0xf0f0f0f0)], pc' := 1 },
    { i := .xor32K 1 0xffffffff, regs := [(1, 0xaaaaaaaaffffffff)], regs' := [(1, 0)], pc' := 1 }] = true := by decide

/-- Table V-alu32 of 96_test_vectors_families.md: one step each. -/
theorem test_exec_alu32_5 : runs [
    { i := .xor32X 1 2, regs := [(1, 0xaaaaaaaa12345678), (2, 0xbbbbbbbb12345678)], regs' := [(1, 0), (2,
      0xbbbbbbbb12345678)], pc' := 1 },
    { i := .xor32X 1 2, regs := [(1, 0xaaaaaaaaffffffff), (2, 0xbbbbbbbbffffffff)], regs' := [(1, 0), (2,
      0xbbbbbbbbffffffff)], pc' := 1 },
    { i := .mov32K 1 0xffffffff, regs' := [(1, 0xffffffff)], pc' := 1 },
    { i := .mov32X 1 2, regs := [(2, 0xbbbbbbbb55667788)], regs' := [(1, 0x55667788), (2, 0xbbbbbbbb55667788)], pc'
      := 1 },
    { i := .movsx32_8 1 2, regs := [(2, 0x1234567890abcd80)], regs' := [(1, 0xffffff80), (2, 0x1234567890abcd80)],
      pc' := 1 },
    { i := .movsx32_16 1 2, regs := [(2, 0x12348000)], regs' := [(1, 0xffff8000), (2, 0x12348000)], pc' := 1 },
    { i := .arsh32K 1 4, regs := [(1, 0xaaaaaaaa80000000)], regs' := [(1, 0xf8000000)], pc' := 1 },
    { i := .arsh32K 1 0x1f, regs := [(1, 0xaaaaaaaa80000000)], regs' := [(1, 0xffffffff)], pc' := 1 },
    { i := .arsh32X 1 2, regs := [(1, 0xaaaaaaaa80000000), (2, 0xbbbbbbbb00000024)], regs' := [(1, 0xf8000000), (2,
      0xbbbbbbbb00000024)], pc' := 1 },
    { i := .arsh32X 1 2, regs := [(1, 0xaaaaaaaa80000000), (2, 0xbbbbbbbb0000001f)], regs' := [(1, 0xffffffff), (2,
      0xbbbbbbbb0000001f)], pc' := 1 }] = true := by decide

/-- Table V-alu64 of 96_test_vectors_families.md: one step each. -/
theorem test_exec_alu64_1 : runs [
    { i := .add64K 1 0xffffffff, regs := [(1, 0x100000000)], regs' := [(1, 0xffffffff)], pc' := 1 },
    { i := .add64K 1 0xffffffff, regs := [(1, 0xffffffffffffffff)], regs' := [(1, 0xfffffffffffffffe)], pc' := 1 },
    { i := .add64X 1 2, regs := [(1, 0xffffffffffffffff), (2, 0xffffffffffffffff)], regs' := [(1,
      0xfffffffffffffffe), (2, 0xffffffffffffffff)], pc' := 1 },
    { i := .add64X 1 2, regs := [(1, 0xffffffffffffffff), (2, 1)], regs' := [(1, 0), (2, 1)], pc' := 1 },
    { i := .sub64K 1 1, regs := [(1, 0)], regs' := [(1, 0xffffffffffffffff)], pc' := 1 },
    { i := .sub64K 1 1, regs := [(1, 0x8000000000000000)], regs' := [(1, 0x7fffffffffffffff)], pc' := 1 },
    { i := .sub64X 1 2, regs := [(1, 0x100000000), (2, 1)], regs' := [(1, 0xffffffff), (2, 1)], pc' := 1 },
    { i := .sub64X 1 2, regs := [(1, 0x8000000000000000), (2, 1)], regs' := [(1, 0x7fffffffffffffff), (2, 1)], pc'
      := 1 },
    { i := .mul64K 1 0xfffffffe, regs := [(1, 3)], regs' := [(1, 0xfffffffffffffffa)], pc' := 1 },
    { i := .mul64K 1 2, regs := [(1, 0xffffffffffffffff)], regs' := [(1, 0xfffffffffffffffe)], pc' := 1 },
    { i := .mul64X 1 2, regs := [(1, 0x8000000000000001), (2, 2)], regs' := [(1, 2), (2, 2)], pc' := 1 },
    { i := .mul64X 1 2, regs := [(1, 0xffffffffffffffff), (2, 2)], regs' := [(1, 0xfffffffffffffffe), (2, 2)], pc'
      := 1 }] = true := by decide

/-- Table V-alu64 of 96_test_vectors_families.md: one step each. -/
theorem test_exec_alu64_2 : runs [
    { i := .div64K 1 0xffffffff, regs := [(1, 0xffffffffffffffff)], regs' := [(1, 1)], pc' := 1 },
    { i := .div64K 1 0xffffffff, regs := [(1, 0xfffffffffffffffe)], regs' := [(1, 0)], pc' := 1 },
    { i := .div64X 1 2, regs := [(1, 0xfffffffffffffffe), (2, 2)], regs' := [(1, 0x7fffffffffffffff), (2, 2)], pc'
      := 1 },
    { i := .div64X 1 2, regs := [(1, 0xffffffffffffffff), (2, 0xffffffffffffffff)], regs' := [(1, 1), (2,
      0xffffffffffffffff)], pc' := 1 },
    { i := .sdiv64K 1 2, regs := [(1, 0xfffffffffffffff9)], regs' := [(1, 0xfffffffffffffffd)], pc' := 1 },
    { i := .sdiv64K 1 0xfffffffe, regs := [(1, 7)], regs' := [(1, 0xfffffffffffffffd)], pc' := 1 },
    { i := .sdiv64X 1 2, regs := [(1, 7), (2, 0xfffffffffffffffe)], regs' := [(1, 0xfffffffffffffffd), (2,
      0xfffffffffffffffe)], pc' := 1 },
    { i := .sdiv64X 1 2, regs := [(1, 0xfffffffffffffff9), (2, 0xfffffffffffffffe)], regs' := [(1, 3), (2,
      0xfffffffffffffffe)], pc' := 1 },
    { i := .or64K 1 0x80000000, regs := [(1, 1)], regs' := [(1, 0xffffffff80000001)], pc' := 1 },
    { i := .or64K 1 0, regs := [(1, 0)], regs' := [(1, 0)], pc' := 1 },
    { i := .or64X 1 2, regs := [(1, 0xf0f0f0f0), (2, 0xf0f0f0f00000000)], regs' := [(1, 0xf0f0f0ff0f0f0f0), (2,
      0xf0f0f0f00000000)], pc' := 1 },
    { i := .or64X 1 2, regs := [(1, 0), (2, 0)], regs' := [(1, 0), (2, 0)], pc' := 1 }] = true := by decide

/-- Table V-alu64 of 96_test_vectors_families.md: one step each. -/
theorem test_exec_alu64_3 : runs [
    { i := .and64K 1 0xffff0000, regs := [(1, 0x123456789abcdef0)], regs' := [(1, 0x123456789abc0000)], pc' := 1 },
    { i := .and64K 1 0, regs := [(1, 0xffffffffffffffff)], regs' := [(1, 0)], pc' := 1 },
    { i := .and64X 1 2, regs := [(1, 0x123456789abcdef0), (2, 0xffffffff)], regs' := [(1, 0x9abcdef0), (2,
      0xffffffff)], pc' := 1 },
    { i := .and64X 1 2, regs := [(1, 0xffffffffffffffff), (2, 0)], regs' := [(1, 0), (2, 0)], pc' := 1 },
    { i := .lsh64K 1 0x3f, regs := [(1, 1)], regs' := [(1, 0x8000000000000000)], pc' := 1 },
    { i := .lsh64K 1 0x3f, regs := [(1, 0xffffffffffffffff)], regs' := [(1, 0x8000000000000000)], pc' := 1 },
    { i := .lsh64X 1 2, regs := [(1, 1), (2, 0x41)], regs' := [(1, 2), (2, 0x41)], pc' := 1 },
    { i := .lsh64X 1 2, regs := [(1, 0xffffffffffffffff), (2, 0x3f)], regs' := [(1, 0x8000000000000000), (2, 0x3f)],
      pc' := 1 },
    { i := .rsh64K 1 0x3f, regs := [(1, 0x8000000000000000)], regs' := [(1, 1)], pc' := 1 },
    { i := .rsh64K 1 0x3f, regs := [(1, 0xffffffffffffffff)], regs' := [(1, 1)], pc' := 1 },
    { i := .rsh64X 1 2, regs := [(1, 0xffffffffffffffff), (2, 0x3f)], regs' := [(1, 1), (2, 0x3f)], pc' := 1 },
    { i := .rsh64X 1 2, regs := [(1, 0xffffffffffffffff), (2, 0x41)], regs' := [(1, 0x7fffffffffffffff), (2, 0x41)],
      pc' := 1 }] = true := by decide

/-- Table V-alu64 of 96_test_vectors_families.md: one step each. -/
theorem test_exec_alu64_4 : runs [
    { i := .neg64 1, regs := [(1, 1)], regs' := [(1, 0xffffffffffffffff)], pc' := 1 },
    { i := .neg64 1, regs := [(1, 0x8000000000000000)], regs' := [(1, 0x8000000000000000)], pc' := 1 },
    { i := .mod64K 1 5, regs := [(1, 0xd)], regs' := [(1, 3)], pc' := 1 },
    { i := .mod64K 1 0, regs := [(1, 0xffffffffffffffff)], regs' := [(1, 0xffffffffffffffff)], pc' := 1 },
    { i := .mod64X 1 2, regs := [(1, 0xaaaaaaaa0000000d), (2, 0)], regs' := [(1, 0xaaaaaaaa0000000d), (2, 0)], pc'
      := 1 },
    { i := .mod64X 1 2, regs := [(1, 0xffffffffffffffff), (2, 0)], regs' := [(1, 0xffffffffffffffff), (2, 0)], pc'
      := 1 },
    { i := .smod64K 1 3, regs := [(1, 0xfffffffffffffff3)], regs' := [(1, 0xffffffffffffffff)], pc' := 1 },
    { i := .smod64K 1 0xfffffffd, regs := [(1, 0xd)], regs' := [(1, 1)], pc' := 1 },
    { i := .smod64X 1 2, regs := [(1, 0xd), (2, 0xfffffffffffffffd)], regs' := [(1, 1), (2, 0xfffffffffffffffd)],
      pc' := 1 },
    { i := .smod64X 1 2, regs := [(1, 0xfffffffffffffff3), (2, 0xfffffffffffffffd)], regs' := [(1,
      0xffffffffffffffff), (2, 0xfffffffffffffffd)], pc' := 1 },
    { i := .xor64K 1 0xffffffff, regs := [(1, 0)], regs' := [(1, 0xffffffffffffffff)], pc' := 1 },
    { i := .xor64K 1 0xffffffff, regs := [(1, 0xffffffffffffffff)], regs' := [(1, 0)], pc' := 1 }] = true := by decide

/-- Table V-alu64 of 96_test_vectors_families.md: one step each. -/
theorem test_exec_alu64_5 : runs [
    { i := .xor64X 1 2, regs := [(1, 0xffff0000ffff0000), (2, 0xffffffff0000)], regs' := [(1, 0xffffffff00000000),
      (2, 0xffffffff0000)], pc' := 1 },
    { i := .xor64X 1 2, regs := [(1, 0xffffffffffffffff), (2, 0xffffffffffffffff)], regs' := [(1, 0), (2,
      0xffffffffffffffff)], pc' := 1 },
    { i := .mov64K 1 0xffffffff, regs' := [(1, 0xffffffffffffffff)], pc' := 1 },
    { i := .mov64X 1 2, regs := [(2, 0x1122334455667788)], regs' := [(1, 0x1122334455667788), (2,
      0x1122334455667788)], pc' := 1 },
    { i := .movsx64_8 1 2, regs := [(2, 0x1234567890abcd80)], regs' := [(1, 0xffffffffffffff80), (2,
      0x1234567890abcd80)], pc' := 1 },
    { i := .movsx64_16 1 2, regs := [(2, 0x12348000)], regs' := [(1, 0xffffffffffff8000), (2, 0x12348000)], pc' := 1
      },
    { i := .movsx64_32 1 2, regs := [(2, 0x180000000)], regs' := [(1, 0xffffffff80000000), (2, 0x180000000)], pc' :=
      1 },
    { i := .arsh64K 1 0x3f, regs := [(1, 0x8000000000000000)], regs' := [(1, 0xffffffffffffffff)], pc' := 1 },
    { i := .arsh64K 1 0x3f, regs := [(1, 0x8000000000000000)], regs' := [(1, 0xffffffffffffffff)], pc' := 1 },
    { i := .arsh64X 1 2, regs := [(1, 0xfffffffffffffffe), (2, 1)], regs' := [(1, 0xffffffffffffffff), (2, 1)], pc'
      := 1 },
    { i := .arsh64X 1 2, regs := [(1, 0x8000000000000000), (2, 0x3f)], regs' := [(1, 0xffffffffffffffff), (2,
      0x3f)], pc' := 1 }] = true := by decide

/-- Table V-byteswap of 96_test_vectors_families.md: one step each. -/
theorem test_exec_byteSwap_1 : runs [
    { i := .le16 1, regs := [(1, 0x1122334455667788)], regs' := [(1, 0x7788)], pc' := 1 },
    { i := .le16 1, endian := .big, regs := [(1, 0x1122334455667788)], regs' := [(1, 0x8877)], pc' := 1 },
    { i := .le32 1, regs := [(1, 0x1122334455667788)], regs' := [(1, 0x55667788)], pc' := 1 },
    { i := .le32 1, endian := .big, regs := [(1, 0x1122334455667788)], regs' := [(1, 0x88776655)], pc' := 1 },
    { i := .le64 1, regs := [(1, 0x1122334455667788)], regs' := [(1, 0x1122334455667788)], pc' := 1 },
    { i := .le64 1, endian := .big, regs := [(1, 0x1122334455667788)], regs' := [(1, 0x8877665544332211)], pc' := 1
      },
    { i := .be16 1, regs := [(1, 0x1122334455667788)], regs' := [(1, 0x8877)], pc' := 1 },
    { i := .be16 1, endian := .big, regs := [(1, 0x1122334455667788)], regs' := [(1, 0x7788)], pc' := 1 },
    { i := .be32 1, regs := [(1, 0x1122334455667788)], regs' := [(1, 0x88776655)], pc' := 1 },
    { i := .be32 1, endian := .big, regs := [(1, 0x1122334455667788)], regs' := [(1, 0x55667788)], pc' := 1 },
    { i := .be64 1, regs := [(1, 0x1122334455667788)], regs' := [(1, 0x8877665544332211)], pc' := 1 },
    { i := .be64 1, endian := .big, regs := [(1, 0x1122334455667788)], regs' := [(1, 0x1122334455667788)], pc' := 1
      }] = true := by decide

/-- Table V-byteswap of 96_test_vectors_families.md: one step each. -/
theorem test_exec_byteSwap_2 : runs [
    { i := .bswap16 1, regs := [(1, 0x1122334455667788)], regs' := [(1, 0x8877)], pc' := 1 },
    { i := .bswap16 1, endian := .big, regs := [(1, 0x1122334455667788)], regs' := [(1, 0x8877)], pc' := 1 },
    { i := .bswap32 1, regs := [(1, 0x1122334455667788)], regs' := [(1, 0x88776655)], pc' := 1 },
    { i := .bswap32 1, endian := .big, regs := [(1, 0x1122334455667788)], regs' := [(1, 0x88776655)], pc' := 1 },
    { i := .bswap64 1, regs := [(1, 0x1122334455667788)], regs' := [(1, 0x8877665544332211)], pc' := 1 },
    { i := .bswap64 1, endian := .big, regs := [(1, 0x1122334455667788)], regs' := [(1, 0x8877665544332211)], pc' :=
      1 }] = true := by decide

/-- Table V-jump of 96_test_vectors_families.md: one step each. -/
theorem test_exec_jump_1 : runs [
    { i := .ja 0xfffd, pc := 7, pc' := 5 },
    { i := .ja32 0x12345, pc' := 74566 },
    { i := .jeq64K 1 1 3, regs := [(1, 0xfffffffffffffffe)], regs' := [(1, 0xfffffffffffffffe)], pc' := 1 },
    { i := .jeq64X 1 2 3, regs := [(1, 0xfffffffffffffffe), (2, 1)], regs' := [(1, 0xfffffffffffffffe), (2, 1)], pc'
      := 1 },
    { i := .jeq32K 1 1 3, regs := [(1, 0xfffffffffffffffe)], regs' := [(1, 0xfffffffffffffffe)], pc' := 1 },
    { i := .jeq32K 1 5 3, regs := [(1, 0x100000005)], regs' := [(1, 0x100000005)], pc' := 4 },
    { i := .jeq32X 1 2 3, regs := [(1, 0xfffffffffffffffe), (2, 1)], regs' := [(1, 0xfffffffffffffffe), (2, 1)], pc'
      := 1 },
    { i := .jeq32X 1 2 3, regs := [(1, 0x100000005), (2, 5)], regs' := [(1, 0x100000005), (2, 5)], pc' := 4 },
    { i := .jgt64K 1 1 3, regs := [(1, 0xfffffffffffffffe)], regs' := [(1, 0xfffffffffffffffe)], pc' := 4 },
    { i := .jgt64K 1 0x80000000 3, regs := [(1, 0x80000000)], regs' := [(1, 0x80000000)], pc' := 1 },
    { i := .jgt64X 1 2 3, regs := [(1, 0xfffffffffffffffe), (2, 1)], regs' := [(1, 0xfffffffffffffffe), (2, 1)], pc'
      := 4 },
    { i := .jgt64X 1 2 3, regs := [(1, 0x80000000), (2, 0xffffffff80000000)], regs' := [(1, 0x80000000), (2,
      0xffffffff80000000)], pc' := 1 }] = true := by decide

/-- Table V-jump of 96_test_vectors_families.md: one step each. -/
theorem test_exec_jump_2 : runs [
    { i := .jgt32K 1 1 3, regs := [(1, 0xfffffffffffffffe)], regs' := [(1, 0xfffffffffffffffe)], pc' := 4 },
    { i := .jgt32K 1 5 3, regs := [(1, 0x100000005)], regs' := [(1, 0x100000005)], pc' := 1 },
    { i := .jgt32X 1 2 3, regs := [(1, 0xfffffffffffffffe), (2, 1)], regs' := [(1, 0xfffffffffffffffe), (2, 1)], pc'
      := 4 },
    { i := .jgt32X 1 2 3, regs := [(1, 0x100000005), (2, 5)], regs' := [(1, 0x100000005), (2, 5)], pc' := 1 },
    { i := .jge64K 1 1 3, regs := [(1, 0xfffffffffffffffe)], regs' := [(1, 0xfffffffffffffffe)], pc' := 4 },
    { i := .jge64K 1 0x80000000 3, regs := [(1, 0x80000000)], regs' := [(1, 0x80000000)], pc' := 1 },
    { i := .jge64X 1 2 3, regs := [(1, 0xfffffffffffffffe), (2, 1)], regs' := [(1, 0xfffffffffffffffe), (2, 1)], pc'
      := 4 },
    { i := .jge64X 1 2 3, regs := [(1, 0x80000000), (2, 0xffffffff80000000)], regs' := [(1, 0x80000000), (2,
      0xffffffff80000000)], pc' := 1 },
    { i := .jge32K 1 1 3, regs := [(1, 0xfffffffffffffffe)], regs' := [(1, 0xfffffffffffffffe)], pc' := 4 },
    { i := .jge32X 1 2 3, regs := [(1, 0xfffffffffffffffe), (2, 1)], regs' := [(1, 0xfffffffffffffffe), (2, 1)], pc'
      := 4 },
    { i := .jset64K 1 1 3, regs := [(1, 0xfffffffffffffffe)], regs' := [(1, 0xfffffffffffffffe)], pc' := 1 },
    { i := .jset64K 1 5 3, regs := [(1, 0x100000005)], regs' := [(1, 0x100000005)], pc' := 4 }] = true := by decide

/-- Table V-jump of 96_test_vectors_families.md: one step each. -/
theorem test_exec_jump_3 : runs [
    { i := .jset64X 1 2 3, regs := [(1, 0xfffffffffffffffe), (2, 1)], regs' := [(1, 0xfffffffffffffffe), (2, 1)],
      pc' := 1 },
    { i := .jset64X 1 2 3, regs := [(1, 0x100000005), (2, 5)], regs' := [(1, 0x100000005), (2, 5)], pc' := 4 },
    { i := .jset32K 1 1 3, regs := [(1, 0xfffffffffffffffe)], regs' := [(1, 0xfffffffffffffffe)], pc' := 1 },
    { i := .jset32K 1 5 3, regs := [(1, 0x100000005)], regs' := [(1, 0x100000005)], pc' := 4 },
    { i := .jset32X 1 2 3, regs := [(1, 0xfffffffffffffffe), (2, 1)], regs' := [(1, 0xfffffffffffffffe), (2, 1)],
      pc' := 1 },
    { i := .jset32X 1 2 3, regs := [(1, 0x100000005), (2, 5)], regs' := [(1, 0x100000005), (2, 5)], pc' := 4 },
    { i := .jne64K 1 1 3, regs := [(1, 0xfffffffffffffffe)], regs' := [(1, 0xfffffffffffffffe)], pc' := 4 },
    { i := .jne64X 1 2 3, regs := [(1, 0xfffffffffffffffe), (2, 1)], regs' := [(1, 0xfffffffffffffffe), (2, 1)], pc'
      := 4 },
    { i := .jne32K 1 1 3, regs := [(1, 0xfffffffffffffffe)], regs' := [(1, 0xfffffffffffffffe)], pc' := 4 },
    { i := .jne32K 1 5 3, regs := [(1, 0x100000005)], regs' := [(1, 0x100000005)], pc' := 1 },
    { i := .jne32X 1 2 3, regs := [(1, 0xfffffffffffffffe), (2, 1)], regs' := [(1, 0xfffffffffffffffe), (2, 1)], pc'
      := 4 },
    { i := .jne32X 1 2 3, regs := [(1, 0x100000005), (2, 5)], regs' := [(1, 0x100000005), (2, 5)], pc' := 1 }] = true := by decide

/-- Table V-jump of 96_test_vectors_families.md: one step each. -/
theorem test_exec_jump_4 : runs [
    { i := .jsgt64K 1 1 3, regs := [(1, 0xfffffffffffffffe)], regs' := [(1, 0xfffffffffffffffe)], pc' := 1 },
    { i := .jsgt64K 1 5 3, regs := [(1, 0x100000005)], regs' := [(1, 0x100000005)], pc' := 4 },
    { i := .jsgt64X 1 2 3, regs := [(1, 0xfffffffffffffffe), (2, 1)], regs' := [(1, 0xfffffffffffffffe), (2, 1)],
      pc' := 1 },
    { i := .jsgt64X 1 2 3, regs := [(1, 0x100000005), (2, 5)], regs' := [(1, 0x100000005), (2, 5)], pc' := 4 },
    { i := .jsgt32K 1 1 3, regs := [(1, 0xfffffffffffffffe)], regs' := [(1, 0xfffffffffffffffe)], pc' := 1 },
    { i := .jsgt32X 1 2 3, regs := [(1, 0xfffffffffffffffe), (2, 1)], regs' := [(1, 0xfffffffffffffffe), (2, 1)],
      pc' := 1 },
    { i := .jsge64K 1 1 3, regs := [(1, 0xfffffffffffffffe)], regs' := [(1, 0xfffffffffffffffe)], pc' := 1 },
    { i := .jsge64K 1 5 3, regs := [(1, 0x100000005)], regs' := [(1, 0x100000005)], pc' := 4 },
    { i := .jsge64X 1 2 3, regs := [(1, 0xfffffffffffffffe), (2, 1)], regs' := [(1, 0xfffffffffffffffe), (2, 1)],
      pc' := 1 },
    { i := .jsge64X 1 2 3, regs := [(1, 0x100000005), (2, 5)], regs' := [(1, 0x100000005), (2, 5)], pc' := 4 },
    { i := .jsge32K 1 1 3, regs := [(1, 0xfffffffffffffffe)], regs' := [(1, 0xfffffffffffffffe)], pc' := 1 },
    { i := .jsge32K 1 5 3, regs := [(1, 0x100000005)], regs' := [(1, 0x100000005)], pc' := 4 }] = true := by decide

/-- Table V-jump of 96_test_vectors_families.md: one step each. -/
theorem test_exec_jump_5 : runs [
    { i := .jsge32X 1 2 3, regs := [(1, 0xfffffffffffffffe), (2, 1)], regs' := [(1, 0xfffffffffffffffe), (2, 1)],
      pc' := 1 },
    { i := .jsge32X 1 2 3, regs := [(1, 0x100000005), (2, 5)], regs' := [(1, 0x100000005), (2, 5)], pc' := 4 },
    { i := .jlt64K 1 1 3, regs := [(1, 0xfffffffffffffffe)], regs' := [(1, 0xfffffffffffffffe)], pc' := 1 },
    { i := .jlt64K 1 0x80000000 3, regs := [(1, 0x80000000)], regs' := [(1, 0x80000000)], pc' := 4 },
    { i := .jlt64X 1 2 3, regs := [(1, 0xfffffffffffffffe), (2, 1)], regs' := [(1, 0xfffffffffffffffe), (2, 1)], pc'
      := 1 },
    { i := .jlt64X 1 2 3, regs := [(1, 0x80000000), (2, 0xffffffff80000000)], regs' := [(1, 0x80000000), (2,
      0xffffffff80000000)], pc' := 4 },
    { i := .jlt32K 1 1 3, regs := [(1, 0xfffffffffffffffe)], regs' := [(1, 0xfffffffffffffffe)], pc' := 1 },
    { i := .jlt32X 1 2 3, regs := [(1, 0xfffffffffffffffe), (2, 1)], regs' := [(1, 0xfffffffffffffffe), (2, 1)], pc'
      := 1 },
    { i := .jle64K 1 1 3, regs := [(1, 0xfffffffffffffffe)], regs' := [(1, 0xfffffffffffffffe)], pc' := 1 },
    { i := .jle64K 1 0x80000000 3, regs := [(1, 0x80000000)], regs' := [(1, 0x80000000)], pc' := 4 },
    { i := .jle64X 1 2 3, regs := [(1, 0xfffffffffffffffe), (2, 1)], regs' := [(1, 0xfffffffffffffffe), (2, 1)], pc'
      := 1 },
    { i := .jle64X 1 2 3, regs := [(1, 0x80000000), (2, 0xffffffff80000000)], regs' := [(1, 0x80000000), (2,
      0xffffffff80000000)], pc' := 4 }] = true := by decide

/-- Table V-jump of 96_test_vectors_families.md: one step each. -/
theorem test_exec_jump_6 : runs [
    { i := .jle32K 1 1 3, regs := [(1, 0xfffffffffffffffe)], regs' := [(1, 0xfffffffffffffffe)], pc' := 1 },
    { i := .jle32K 1 5 3, regs := [(1, 0x100000005)], regs' := [(1, 0x100000005)], pc' := 4 },
    { i := .jle32X 1 2 3, regs := [(1, 0xfffffffffffffffe), (2, 1)], regs' := [(1, 0xfffffffffffffffe), (2, 1)], pc'
      := 1 },
    { i := .jle32X 1 2 3, regs := [(1, 0x100000005), (2, 5)], regs' := [(1, 0x100000005), (2, 5)], pc' := 4 },
    { i := .jslt64K 1 1 3, regs := [(1, 0xfffffffffffffffe)], regs' := [(1, 0xfffffffffffffffe)], pc' := 4 },
    { i := .jslt64K 1 5 3, regs := [(1, 0x100000005)], regs' := [(1, 0x100000005)], pc' := 1 },
    { i := .jslt64X 1 2 3, regs := [(1, 0xfffffffffffffffe), (2, 1)], regs' := [(1, 0xfffffffffffffffe), (2, 1)],
      pc' := 4 },
    { i := .jslt64X 1 2 3, regs := [(1, 0x100000005), (2, 5)], regs' := [(1, 0x100000005), (2, 5)], pc' := 1 },
    { i := .jslt32K 1 1 3, regs := [(1, 0xfffffffffffffffe)], regs' := [(1, 0xfffffffffffffffe)], pc' := 4 },
    { i := .jslt32K 1 5 3, regs := [(1, 0x100000005)], regs' := [(1, 0x100000005)], pc' := 1 },
    { i := .jslt32X 1 2 3, regs := [(1, 0xfffffffffffffffe), (2, 1)], regs' := [(1, 0xfffffffffffffffe), (2, 1)],
      pc' := 4 },
    { i := .jslt32X 1 2 3, regs := [(1, 0x100000005), (2, 5)], regs' := [(1, 0x100000005), (2, 5)], pc' := 1 }] = true := by decide

/-- Table V-jump of 96_test_vectors_families.md: one step each. -/
theorem test_exec_jump_7 : runs [
    { i := .jsle64K 1 1 3, regs := [(1, 0xfffffffffffffffe)], regs' := [(1, 0xfffffffffffffffe)], pc' := 4 },
    { i := .jsle64K 1 5 3, regs := [(1, 0x100000005)], regs' := [(1, 0x100000005)], pc' := 1 },
    { i := .jsle64X 1 2 3, regs := [(1, 0xfffffffffffffffe), (2, 1)], regs' := [(1, 0xfffffffffffffffe), (2, 1)],
      pc' := 4 },
    { i := .jsle64X 1 2 3, regs := [(1, 0x100000005), (2, 5)], regs' := [(1, 0x100000005), (2, 5)], pc' := 1 },
    { i := .jsle32K 1 1 3, regs := [(1, 0xfffffffffffffffe)], regs' := [(1, 0xfffffffffffffffe)], pc' := 4 },
    { i := .jsle32X 1 2 3, regs := [(1, 0xfffffffffffffffe), (2, 1)], regs' := [(1, 0xfffffffffffffffe), (2, 1)],
      pc' := 4 },
    { i := .callHelper 6, pc' := 0, status' := .faulted (.platformFault .unknownHelper 6) },
    { i := .callLocal 2, pc' := 3, cs' := [⟨1, []⟩] },
    { i := .callBtf 0x1234, pc' := 0, status' := .faulted (.platformFault .unknownHelper 0x1234) },
    { i := .exit, cs := [⟨1, []⟩], pc' := 1 },
    { i := .exit, pc' := 0, status' := .exited }] = true := by decide

/-- Table V-load_store of 96_test_vectors_families.md: one step each. -/
theorem test_exec_loadStore_1 : runs [
    { i := .ldxw 1 2 8, regs := [(2, 0xff8)], mem := [(0x1000, 0x88), (0x1001, 0x99), (0x1002, 0xaa), (0x1003,
      0xbb)], regs' := [(1, 0xbbaa9988), (2, 0xff8)], mem' := [(0x1000, 0x88), (0x1001, 0x99), (0x1002, 0xaa),
      (0x1003, 0xbb)], pc' := 1 },
    { i := .ldxw 1 2 8, endian := .big, regs := [(2, 0xff8)], mem := [(0x1000, 0x88), (0x1001, 0x99), (0x1002,
      0xaa), (0x1003, 0xbb)], regs' := [(1, 0x8899aabb), (2, 0xff8)], mem' := [(0x1000, 0x88), (0x1001, 0x99),
      (0x1002, 0xaa), (0x1003, 0xbb)], pc' := 1 },
    { i := .ldxh 1 2 8, regs := [(2, 0xff8)], mem := [(0x1000, 0x88), (0x1001, 0x99)], regs' := [(1, 0x9988), (2,
      0xff8)], mem' := [(0x1000, 0x88), (0x1001, 0x99)], pc' := 1 },
    { i := .ldxh 1 2 8, endian := .big, regs := [(2, 0xff8)], mem := [(0x1000, 0x88), (0x1001, 0x99)], regs' := [(1,
      0x8899), (2, 0xff8)], mem' := [(0x1000, 0x88), (0x1001, 0x99)], pc' := 1 },
    { i := .ldxb 1 2 8, regs := [(2, 0xff8)], mem := [(0x1000, 0x88)], regs' := [(1, 0x88), (2, 0xff8)], mem' :=
      [(0x1000, 0x88)], pc' := 1 },
    { i := .ldxb 1 2 8, endian := .big, regs := [(2, 0xff8)], mem := [(0x1000, 0x88)], regs' := [(1, 0x88), (2,
      0xff8)], mem' := [(0x1000, 0x88)], pc' := 1 },
    { i := .ldxdw 1 2 8, regs := [(2, 0xff8)], mem := [(0x1000, 0x88), (0x1001, 0x99), (0x1002, 0xaa), (0x1003,
      0xbb), (0x1004, 0xcc), (0x1005, 0xdd), (0x1006, 0xee), (0x1007, 0xff)], regs' := [(1, 0xffeeddccbbaa9988), (2,
      0xff8)], mem' := [(0x1000, 0x88), (0x1001, 0x99), (0x1002, 0xaa), (0x1003, 0xbb), (0x1004, 0xcc), (0x1005,
      0xdd), (0x1006, 0xee), (0x1007, 0xff)], pc' := 1 },
    { i := .ldxdw 1 2 8, endian := .big, regs := [(2, 0xff8)], mem := [(0x1000, 0x88), (0x1001, 0x99), (0x1002,
      0xaa), (0x1003, 0xbb), (0x1004, 0xcc), (0x1005, 0xdd), (0x1006, 0xee), (0x1007, 0xff)], regs' := [(1,
      0x8899aabbccddeeff), (2, 0xff8)], mem' := [(0x1000, 0x88), (0x1001, 0x99), (0x1002, 0xaa), (0x1003, 0xbb),
      (0x1004, 0xcc), (0x1005, 0xdd), (0x1006, 0xee), (0x1007, 0xff)], pc' := 1 },
    { i := .stw 1 0xfff8 0xfffffffe, regs := [(1, 0x1008)], regs' := [(1, 0x1008)], mem' := [(0x1000, 0xfe),
      (0x1001, 0xff), (0x1002, 0xff), (0x1003, 0xff)], pc' := 1 },
    { i := .stw 1 0xfff8 0xfffffffe, endian := .big, regs := [(1, 0x1008)], regs' := [(1, 0x1008)], mem' :=
      [(0x1000, 0xff), (0x1001, 0xff), (0x1002, 0xff), (0x1003, 0xfe)], pc' := 1 },
    { i := .sth 1 0xfff8 0xfffffffe, regs := [(1, 0x1008)], regs' := [(1, 0x1008)], mem' := [(0x1000, 0xfe),
      (0x1001, 0xff)], pc' := 1 },
    { i := .sth 1 0xfff8 0xfffffffe, endian := .big, regs := [(1, 0x1008)], regs' := [(1, 0x1008)], mem' :=
      [(0x1000, 0xff), (0x1001, 0xfe)], pc' := 1 }] = true := by decide

/-- Table V-load_store of 96_test_vectors_families.md: one step each. -/
theorem test_exec_loadStore_2 : runs [
    { i := .stb 1 0xfff8 0x1ff, regs := [(1, 0x1008)], regs' := [(1, 0x1008)], mem' := [(0x1000, 0xff)], pc' := 1 },
    { i := .stb 1 0xfff8 0x1ff, endian := .big, regs := [(1, 0x1008)], regs' := [(1, 0x1008)], mem' := [(0x1000,
      0xff)], pc' := 1 },
    { i := .stdw 1 0xfff8 0xfffffffe, regs := [(1, 0x1008)], regs' := [(1, 0x1008)], mem' := [(0x1000, 0xfe),
      (0x1001, 0xff), (0x1002, 0xff), (0x1003, 0xff), (0x1004, 0xff), (0x1005, 0xff), (0x1006, 0xff), (0x1007, 0xff)],
      pc' := 1 },
    { i := .stdw 1 0xfff8 0xfffffffe, endian := .big, regs := [(1, 0x1008)], regs' := [(1, 0x1008)], mem' :=
      [(0x1000, 0xff), (0x1001, 0xff), (0x1002, 0xff), (0x1003, 0xff), (0x1004, 0xff), (0x1005, 0xff), (0x1006, 0xff),
      (0x1007, 0xfe)], pc' := 1 },
    { i := .stxw 1 2 0, regs := [(1, 0x1000), (2, 0x1122334455667788)], regs' := [(1, 0x1000), (2,
      0x1122334455667788)], mem' := [(0x1000, 0x88), (0x1001, 0x77), (0x1002, 0x66), (0x1003, 0x55)], pc' := 1 },
    { i := .stxw 1 2 0, endian := .big, regs := [(1, 0x1000), (2, 0x1122334455667788)], regs' := [(1, 0x1000), (2,
      0x1122334455667788)], mem' := [(0x1000, 0x55), (0x1001, 0x66), (0x1002, 0x77), (0x1003, 0x88)], pc' := 1 },
    { i := .stxh 1 2 0, regs := [(1, 0x1000), (2, 0x1122334455667788)], regs' := [(1, 0x1000), (2,
      0x1122334455667788)], mem' := [(0x1000, 0x88), (0x1001, 0x77)], pc' := 1 },
    { i := .stxh 1 2 0, endian := .big, regs := [(1, 0x1000), (2, 0x1122334455667788)], regs' := [(1, 0x1000), (2,
      0x1122334455667788)], mem' := [(0x1000, 0x77), (0x1001, 0x88)], pc' := 1 },
    { i := .stxb 1 2 0, regs := [(1, 0x1000), (2, 0x1122334455667788)], regs' := [(1, 0x1000), (2,
      0x1122334455667788)], mem' := [(0x1000, 0x88)], pc' := 1 },
    { i := .stxb 1 2 0, endian := .big, regs := [(1, 0x1000), (2, 0x1122334455667788)], regs' := [(1, 0x1000), (2,
      0x1122334455667788)], mem' := [(0x1000, 0x88)], pc' := 1 },
    { i := .stxdw 1 2 0, regs := [(1, 0x1000), (2, 0x1122334455667788)], regs' := [(1, 0x1000), (2,
      0x1122334455667788)], mem' := [(0x1000, 0x88), (0x1001, 0x77), (0x1002, 0x66), (0x1003, 0x55), (0x1004, 0x44),
      (0x1005, 0x33), (0x1006, 0x22), (0x1007, 0x11)], pc' := 1 },
    { i := .stxdw 1 2 0, endian := .big, regs := [(1, 0x1000), (2, 0x1122334455667788)], regs' := [(1, 0x1000), (2,
      0x1122334455667788)], mem' := [(0x1000, 0x11), (0x1001, 0x22), (0x1002, 0x33), (0x1003, 0x44), (0x1004, 0x55),
      (0x1005, 0x66), (0x1006, 0x77), (0x1007, 0x88)], pc' := 1 }] = true := by decide

/-- Table V-load_store of 96_test_vectors_families.md: one step each. -/
theorem test_exec_loadStore_3 : runs [
    { i := .ldxsw 1 2 0, regs := [(2, 0x1000)], mem := [(0x1000, 0x80), (0x1003, 0x7f)], regs' := [(1, 0x7f000080),
      (2, 0x1000)], mem' := [(0x1000, 0x80), (0x1003, 0x7f)], pc' := 1 },
    { i := .ldxsw 1 2 0, endian := .big, regs := [(2, 0x1000)], mem := [(0x1000, 0x80), (0x1003, 0x7f)], regs' :=
      [(1, 0xffffffff8000007f), (2, 0x1000)], mem' := [(0x1000, 0x80), (0x1003, 0x7f)], pc' := 1 },
    { i := .ldxsh 1 2 0, regs := [(2, 0x1000)], mem := [(0x1000, 0x80)], regs' := [(1, 0x80), (2, 0x1000)], mem' :=
      [(0x1000, 0x80)], pc' := 1 },
    { i := .ldxsh 1 2 0, endian := .big, regs := [(2, 0x1000)], mem := [(0x1000, 0x80)], regs' := [(1,
      0xffffffffffff8000), (2, 0x1000)], mem' := [(0x1000, 0x80)], pc' := 1 },
    { i := .ldxsb 1 2 0, regs := [(2, 0x1000)], mem := [(0x1000, 0x80)], regs' := [(1, 0xffffffffffffff80), (2,
      0x1000)], mem' := [(0x1000, 0x80)], pc' := 1 },
    { i := .ldxsb 1 2 0, endian := .big, regs := [(2, 0x1000)], mem := [(0x1000, 0x80)], regs' := [(1,
      0xffffffffffffff80), (2, 0x1000)], mem' := [(0x1000, 0x80)], pc' := 1 }] = true := by decide

/-- Table V-atomic of 96_test_vectors_families.md: one step each. -/
theorem test_exec_atomic_1 : runs [
    { i := .atomicAdd32 1 2 0, regs := [(1, 0x2000), (2, 0xaaaaaaaa0ff00ff1)], mem := [(0x2000, 0xf0), (0x2001,
      0xf0), (0x2002, 0xf0), (0x2003, 0xf0)], regs' := [(1, 0x2000), (2, 0xaaaaaaaa0ff00ff1)], mem' := [(0x2000,
      0xe1), (0x2002, 0xe1)], pc' := 1 },
    { i := .atomicAdd32 1 2 0, endian := .big, regs := [(1, 0x2000), (2, 0xaaaaaaaa0ff00ff1)], mem := [(0x2000,
      0xf0), (0x2001, 0xf0), (0x2002, 0xf0), (0x2003, 0xf0)], regs' := [(1, 0x2000), (2, 0xaaaaaaaa0ff00ff1)], mem' :=
      [(0x2001, 0xe1), (0x2003, 0xe1)], pc' := 1 },
    { i := .atomicOr32 1 2 0, regs := [(1, 0x2000), (2, 0xaaaaaaaa0ff00ff1)], mem := [(0x2000, 0xf0), (0x2001,
      0xf0), (0x2002, 0xf0), (0x2003, 0xf0)], regs' := [(1, 0x2000), (2, 0xaaaaaaaa0ff00ff1)], mem' := [(0x2000,
      0xf1), (0x2001, 0xff), (0x2002, 0xf0), (0x2003, 0xff)], pc' := 1 },
    { i := .atomicOr32 1 2 0, endian := .big, regs := [(1, 0x2000), (2, 0xaaaaaaaa0ff00ff1)], mem := [(0x2000,
      0xf0), (0x2001, 0xf0), (0x2002, 0xf0), (0x2003, 0xf0)], regs' := [(1, 0x2000), (2, 0xaaaaaaaa0ff00ff1)], mem' :=
      [(0x2000, 0xff), (0x2001, 0xf0), (0x2002, 0xff), (0x2003, 0xf1)], pc' := 1 },
    { i := .atomicAnd32 1 2 0, regs := [(1, 0x2000), (2, 0xaaaaaaaa0ff00ff1)], mem := [(0x2000, 0xf0), (0x2001,
      0xf0), (0x2002, 0xf0), (0x2003, 0xf0)], regs' := [(1, 0x2000), (2, 0xaaaaaaaa0ff00ff1)], mem' := [(0x2000,
      0xf0), (0x2002, 0xf0)], pc' := 1 },
    { i := .atomicAnd32 1 2 0, endian := .big, regs := [(1, 0x2000), (2, 0xaaaaaaaa0ff00ff1)], mem := [(0x2000,
      0xf0), (0x2001, 0xf0), (0x2002, 0xf0), (0x2003, 0xf0)], regs' := [(1, 0x2000), (2, 0xaaaaaaaa0ff00ff1)], mem' :=
      [(0x2001, 0xf0), (0x2003, 0xf0)], pc' := 1 },
    { i := .atomicXor32 1 2 0, regs := [(1, 0x2000), (2, 0xaaaaaaaa0ff00ff1)], mem := [(0x2000, 0xf0), (0x2001,
      0xf0), (0x2002, 0xf0), (0x2003, 0xf0)], regs' := [(1, 0x2000), (2, 0xaaaaaaaa0ff00ff1)], mem' := [(0x2000, 1),
      (0x2001, 0xff), (0x2003, 0xff)], pc' := 1 },
    { i := .atomicXor32 1 2 0, endian := .big, regs := [(1, 0x2000), (2, 0xaaaaaaaa0ff00ff1)], mem := [(0x2000,
      0xf0), (0x2001, 0xf0), (0x2002, 0xf0), (0x2003, 0xf0)], regs' := [(1, 0x2000), (2, 0xaaaaaaaa0ff00ff1)], mem' :=
      [(0x2000, 0xff), (0x2002, 0xff), (0x2003, 1)], pc' := 1 },
    { i := .atomicFetchAdd32 1 2 0, regs := [(1, 0x2000), (2, 0xaaaaaaaa0ff00ff1)], mem := [(0x2000, 0xf0), (0x2001,
      0xf0), (0x2002, 0xf0), (0x2003, 0xf0)], regs' := [(1, 0x2000), (2, 0xf0f0f0f0)], mem' := [(0x2000, 0xe1),
      (0x2002, 0xe1)], pc' := 1 },
    { i := .atomicFetchAdd32 1 2 0, endian := .big, regs := [(1, 0x2000), (2, 0xaaaaaaaa0ff00ff1)], mem := [(0x2000,
      0xf0), (0x2001, 0xf0), (0x2002, 0xf0), (0x2003, 0xf0)], regs' := [(1, 0x2000), (2, 0xf0f0f0f0)], mem' :=
      [(0x2001, 0xe1), (0x2003, 0xe1)], pc' := 1 },
    { i := .atomicFetchOr32 1 2 0, regs := [(1, 0x2000), (2, 0xaaaaaaaa0ff00ff1)], mem := [(0x2000, 0xf0), (0x2001,
      0xf0), (0x2002, 0xf0), (0x2003, 0xf0)], regs' := [(1, 0x2000), (2, 0xf0f0f0f0)], mem' := [(0x2000, 0xf1),
      (0x2001, 0xff), (0x2002, 0xf0), (0x2003, 0xff)], pc' := 1 },
    { i := .atomicFetchOr32 1 2 0, endian := .big, regs := [(1, 0x2000), (2, 0xaaaaaaaa0ff00ff1)], mem := [(0x2000,
      0xf0), (0x2001, 0xf0), (0x2002, 0xf0), (0x2003, 0xf0)], regs' := [(1, 0x2000), (2, 0xf0f0f0f0)], mem' :=
      [(0x2000, 0xff), (0x2001, 0xf0), (0x2002, 0xff), (0x2003, 0xf1)], pc' := 1 }] = true := by decide

/-- Table V-atomic of 96_test_vectors_families.md: one step each. -/
theorem test_exec_atomic_2 : runs [
    { i := .atomicFetchAnd32 1 2 0, regs := [(1, 0x2000), (2, 0xaaaaaaaa0ff00ff1)], mem := [(0x2000, 0xf0), (0x2001,
      0xf0), (0x2002, 0xf0), (0x2003, 0xf0)], regs' := [(1, 0x2000), (2, 0xf0f0f0f0)], mem' := [(0x2000, 0xf0),
      (0x2002, 0xf0)], pc' := 1 },
    { i := .atomicFetchAnd32 1 2 0, endian := .big, regs := [(1, 0x2000), (2, 0xaaaaaaaa0ff00ff1)], mem := [(0x2000,
      0xf0), (0x2001, 0xf0), (0x2002, 0xf0), (0x2003, 0xf0)], regs' := [(1, 0x2000), (2, 0xf0f0f0f0)], mem' :=
      [(0x2001, 0xf0), (0x2003, 0xf0)], pc' := 1 },
    { i := .atomicFetchXor32 1 2 0, regs := [(1, 0x2000), (2, 0xaaaaaaaa0ff00ff1)], mem := [(0x2000, 0xf0), (0x2001,
      0xf0), (0x2002, 0xf0), (0x2003, 0xf0)], regs' := [(1, 0x2000), (2, 0xf0f0f0f0)], mem' := [(0x2000, 1), (0x2001,
      0xff), (0x2003, 0xff)], pc' := 1 },
    { i := .atomicFetchXor32 1 2 0, endian := .big, regs := [(1, 0x2000), (2, 0xaaaaaaaa0ff00ff1)], mem := [(0x2000,
      0xf0), (0x2001, 0xf0), (0x2002, 0xf0), (0x2003, 0xf0)], regs' := [(1, 0x2000), (2, 0xf0f0f0f0)], mem' :=
      [(0x2000, 0xff), (0x2002, 0xff), (0x2003, 1)], pc' := 1 },
    { i := .atomicXchg32 1 2 0, regs := [(1, 0x2000), (2, 0xaaaaaaaa0ff00ff1)], mem := [(0x2000, 0xf0), (0x2001,
      0xf0), (0x2002, 0xf0), (0x2003, 0xf0)], regs' := [(1, 0x2000), (2, 0xf0f0f0f0)], mem' := [(0x2000, 0xf1),
      (0x2001, 0xf), (0x2002, 0xf0), (0x2003, 0xf)], pc' := 1 },
    { i := .atomicXchg32 1 2 0, endian := .big, regs := [(1, 0x2000), (2, 0xaaaaaaaa0ff00ff1)], mem := [(0x2000,
      0xf0), (0x2001, 0xf0), (0x2002, 0xf0), (0x2003, 0xf0)], regs' := [(1, 0x2000), (2, 0xf0f0f0f0)], mem' :=
      [(0x2000, 0xf), (0x2001, 0xf0), (0x2002, 0xf), (0x2003, 0xf1)], pc' := 1 },
    { i := .atomicCmpxchg32 1 2 0, regs := [(0, 0xbbbbbbbbf0f0f0f0), (1, 0x2000), (2, 0xaaaaaaaa0ff00ff1)], mem :=
      [(0x2000, 0xf0), (0x2001, 0xf0), (0x2002, 0xf0), (0x2003, 0xf0)], regs' := [(0, 0xf0f0f0f0), (1, 0x2000), (2,
      0xaaaaaaaa0ff00ff1)], mem' := [(0x2000, 0xf1), (0x2001, 0xf), (0x2002, 0xf0), (0x2003, 0xf)], pc' := 1 },
    { i := .atomicCmpxchg32 1 2 0, endian := .big, regs := [(0, 7), (1, 0x2000), (2, 0xaaaaaaaa0ff00ff1)], mem :=
      [(0x2000, 0xf0), (0x2001, 0xf0), (0x2002, 0xf0), (0x2003, 0xf0)], regs' := [(0, 0xf0f0f0f0), (1, 0x2000), (2,
      0xaaaaaaaa0ff00ff1)], mem' := [(0x2000, 0xf0), (0x2001, 0xf0), (0x2002, 0xf0), (0x2003, 0xf0)], pc' := 1 },
    { i := .atomicAdd64 1 2 0, regs := [(1, 0x2000), (2, 0xff00ff00ff00ff1)], mem := [(0x2000, 0xf0), (0x2001,
      0xf0), (0x2002, 0xf0), (0x2003, 0xf0), (0x2004, 0xf0), (0x2005, 0xf0), (0x2006, 0xf0), (0x2007, 0xf0)], regs' :=
      [(1, 0x2000), (2, 0xff00ff00ff00ff1)], mem' := [(0x2000, 0xe1), (0x2002, 0xe1), (0x2004, 0xe1), (0x2006, 0xe1)],
      pc' := 1 },
    { i := .atomicAdd64 1 2 0, endian := .big, regs := [(1, 0x2000), (2, 0xff00ff00ff00ff1)], mem := [(0x2000,
      0xf0), (0x2001, 0xf0), (0x2002, 0xf0), (0x2003, 0xf0), (0x2004, 0xf0), (0x2005, 0xf0), (0x2006, 0xf0), (0x2007,
      0xf0)], regs' := [(1, 0x2000), (2, 0xff00ff00ff00ff1)], mem' := [(0x2001, 0xe1), (0x2003, 0xe1), (0x2005, 0xe1),
      (0x2007, 0xe1)], pc' := 1 },
    { i := .atomicOr64 1 2 0, regs := [(1, 0x2000), (2, 0xff00ff00ff00ff1)], mem := [(0x2000, 0xf0), (0x2001, 0xf0),
      (0x2002, 0xf0), (0x2003, 0xf0), (0x2004, 0xf0), (0x2005, 0xf0), (0x2006, 0xf0), (0x2007, 0xf0)], regs' := [(1,
      0x2000), (2, 0xff00ff00ff00ff1)], mem' := [(0x2000, 0xf1), (0x2001, 0xff), (0x2002, 0xf0), (0x2003, 0xff),
      (0x2004, 0xf0), (0x2005, 0xff), (0x2006, 0xf0), (0x2007, 0xff)], pc' := 1 },
    { i := .atomicOr64 1 2 0, endian := .big, regs := [(1, 0x2000), (2, 0xff00ff00ff00ff1)], mem := [(0x2000, 0xf0),
      (0x2001, 0xf0), (0x2002, 0xf0), (0x2003, 0xf0), (0x2004, 0xf0), (0x2005, 0xf0), (0x2006, 0xf0), (0x2007, 0xf0)],
      regs' := [(1, 0x2000), (2, 0xff00ff00ff00ff1)], mem' := [(0x2000, 0xff), (0x2001, 0xf0), (0x2002, 0xff),
      (0x2003, 0xf0), (0x2004, 0xff), (0x2005, 0xf0), (0x2006, 0xff), (0x2007, 0xf1)], pc' := 1 }] = true := by decide

/-- Table V-atomic of 96_test_vectors_families.md: one step each. -/
theorem test_exec_atomic_3 : runs [
    { i := .atomicAnd64 1 2 0, regs := [(1, 0x2000), (2, 0xff00ff00ff00ff1)], mem := [(0x2000, 0xf0), (0x2001,
      0xf0), (0x2002, 0xf0), (0x2003, 0xf0), (0x2004, 0xf0), (0x2005, 0xf0), (0x2006, 0xf0), (0x2007, 0xf0)], regs' :=
      [(1, 0x2000), (2, 0xff00ff00ff00ff1)], mem' := [(0x2000, 0xf0), (0x2002, 0xf0), (0x2004, 0xf0), (0x2006, 0xf0)],
      pc' := 1 },
    { i := .atomicAnd64 1 2 0, endian := .big, regs := [(1, 0x2000), (2, 0xff00ff00ff00ff1)], mem := [(0x2000,
      0xf0), (0x2001, 0xf0), (0x2002, 0xf0), (0x2003, 0xf0), (0x2004, 0xf0), (0x2005, 0xf0), (0x2006, 0xf0), (0x2007,
      0xf0)], regs' := [(1, 0x2000), (2, 0xff00ff00ff00ff1)], mem' := [(0x2001, 0xf0), (0x2003, 0xf0), (0x2005, 0xf0),
      (0x2007, 0xf0)], pc' := 1 },
    { i := .atomicXor64 1 2 0, regs := [(1, 0x2000), (2, 0xff00ff00ff00ff1)], mem := [(0x2000, 0xf0), (0x2001,
      0xf0), (0x2002, 0xf0), (0x2003, 0xf0), (0x2004, 0xf0), (0x2005, 0xf0), (0x2006, 0xf0), (0x2007, 0xf0)], regs' :=
      [(1, 0x2000), (2, 0xff00ff00ff00ff1)], mem' := [(0x2000, 1), (0x2001, 0xff), (0x2003, 0xff), (0x2005, 0xff),
      (0x2007, 0xff)], pc' := 1 },
    { i := .atomicXor64 1 2 0, endian := .big, regs := [(1, 0x2000), (2, 0xff00ff00ff00ff1)], mem := [(0x2000,
      0xf0), (0x2001, 0xf0), (0x2002, 0xf0), (0x2003, 0xf0), (0x2004, 0xf0), (0x2005, 0xf0), (0x2006, 0xf0), (0x2007,
      0xf0)], regs' := [(1, 0x2000), (2, 0xff00ff00ff00ff1)], mem' := [(0x2000, 0xff), (0x2002, 0xff), (0x2004, 0xff),
      (0x2006, 0xff), (0x2007, 1)], pc' := 1 },
    { i := .atomicFetchAdd64 1 2 0, regs := [(1, 0x2000), (2, 0xff00ff00ff00ff1)], mem := [(0x2000, 0xf0), (0x2001,
      0xf0), (0x2002, 0xf0), (0x2003, 0xf0), (0x2004, 0xf0), (0x2005, 0xf0), (0x2006, 0xf0), (0x2007, 0xf0)], regs' :=
      [(1, 0x2000), (2, 0xf0f0f0f0f0f0f0f0)], mem' := [(0x2000, 0xe1), (0x2002, 0xe1), (0x2004, 0xe1), (0x2006,
      0xe1)], pc' := 1 },
    { i := .atomicFetchAdd64 1 2 0, endian := .big, regs := [(1, 0x2000), (2, 0xff00ff00ff00ff1)], mem := [(0x2000,
      0xf0), (0x2001, 0xf0), (0x2002, 0xf0), (0x2003, 0xf0), (0x2004, 0xf0), (0x2005, 0xf0), (0x2006, 0xf0), (0x2007,
      0xf0)], regs' := [(1, 0x2000), (2, 0xf0f0f0f0f0f0f0f0)], mem' := [(0x2001, 0xe1), (0x2003, 0xe1), (0x2005,
      0xe1), (0x2007, 0xe1)], pc' := 1 },
    { i := .atomicFetchOr64 1 2 0, regs := [(1, 0x2000), (2, 0xff00ff00ff00ff1)], mem := [(0x2000, 0xf0), (0x2001,
      0xf0), (0x2002, 0xf0), (0x2003, 0xf0), (0x2004, 0xf0), (0x2005, 0xf0), (0x2006, 0xf0), (0x2007, 0xf0)], regs' :=
      [(1, 0x2000), (2, 0xf0f0f0f0f0f0f0f0)], mem' := [(0x2000, 0xf1), (0x2001, 0xff), (0x2002, 0xf0), (0x2003, 0xff),
      (0x2004, 0xf0), (0x2005, 0xff), (0x2006, 0xf0), (0x2007, 0xff)], pc' := 1 },
    { i := .atomicFetchOr64 1 2 0, endian := .big, regs := [(1, 0x2000), (2, 0xff00ff00ff00ff1)], mem := [(0x2000,
      0xf0), (0x2001, 0xf0), (0x2002, 0xf0), (0x2003, 0xf0), (0x2004, 0xf0), (0x2005, 0xf0), (0x2006, 0xf0), (0x2007,
      0xf0)], regs' := [(1, 0x2000), (2, 0xf0f0f0f0f0f0f0f0)], mem' := [(0x2000, 0xff), (0x2001, 0xf0), (0x2002,
      0xff), (0x2003, 0xf0), (0x2004, 0xff), (0x2005, 0xf0), (0x2006, 0xff), (0x2007, 0xf1)], pc' := 1 },
    { i := .atomicFetchAnd64 1 2 0, regs := [(1, 0x2000), (2, 0xff00ff00ff00ff1)], mem := [(0x2000, 0xf0), (0x2001,
      0xf0), (0x2002, 0xf0), (0x2003, 0xf0), (0x2004, 0xf0), (0x2005, 0xf0), (0x2006, 0xf0), (0x2007, 0xf0)], regs' :=
      [(1, 0x2000), (2, 0xf0f0f0f0f0f0f0f0)], mem' := [(0x2000, 0xf0), (0x2002, 0xf0), (0x2004, 0xf0), (0x2006,
      0xf0)], pc' := 1 },
    { i := .atomicFetchAnd64 1 2 0, endian := .big, regs := [(1, 0x2000), (2, 0xff00ff00ff00ff1)], mem := [(0x2000,
      0xf0), (0x2001, 0xf0), (0x2002, 0xf0), (0x2003, 0xf0), (0x2004, 0xf0), (0x2005, 0xf0), (0x2006, 0xf0), (0x2007,
      0xf0)], regs' := [(1, 0x2000), (2, 0xf0f0f0f0f0f0f0f0)], mem' := [(0x2001, 0xf0), (0x2003, 0xf0), (0x2005,
      0xf0), (0x2007, 0xf0)], pc' := 1 },
    { i := .atomicFetchXor64 1 2 0, regs := [(1, 0x2000), (2, 0xff00ff00ff00ff1)], mem := [(0x2000, 0xf0), (0x2001,
      0xf0), (0x2002, 0xf0), (0x2003, 0xf0), (0x2004, 0xf0), (0x2005, 0xf0), (0x2006, 0xf0), (0x2007, 0xf0)], regs' :=
      [(1, 0x2000), (2, 0xf0f0f0f0f0f0f0f0)], mem' := [(0x2000, 1), (0x2001, 0xff), (0x2003, 0xff), (0x2005, 0xff),
      (0x2007, 0xff)], pc' := 1 },
    { i := .atomicFetchXor64 1 2 0, endian := .big, regs := [(1, 0x2000), (2, 0xff00ff00ff00ff1)], mem := [(0x2000,
      0xf0), (0x2001, 0xf0), (0x2002, 0xf0), (0x2003, 0xf0), (0x2004, 0xf0), (0x2005, 0xf0), (0x2006, 0xf0), (0x2007,
      0xf0)], regs' := [(1, 0x2000), (2, 0xf0f0f0f0f0f0f0f0)], mem' := [(0x2000, 0xff), (0x2002, 0xff), (0x2004,
      0xff), (0x2006, 0xff), (0x2007, 1)], pc' := 1 }] = true := by decide

/-- Table V-atomic of 96_test_vectors_families.md: one step each. -/
theorem test_exec_atomic_4 : runs [
    { i := .atomicXchg64 1 2 0, regs := [(1, 0x2000), (2, 0xff00ff00ff00ff1)], mem := [(0x2000, 0xf0), (0x2001,
      0xf0), (0x2002, 0xf0), (0x2003, 0xf0), (0x2004, 0xf0), (0x2005, 0xf0), (0x2006, 0xf0), (0x2007, 0xf0)], regs' :=
      [(1, 0x2000), (2, 0xf0f0f0f0f0f0f0f0)], mem' := [(0x2000, 0xf1), (0x2001, 0xf), (0x2002, 0xf0), (0x2003, 0xf),
      (0x2004, 0xf0), (0x2005, 0xf), (0x2006, 0xf0), (0x2007, 0xf)], pc' := 1 },
    { i := .atomicXchg64 1 2 0, endian := .big, regs := [(1, 0x2000), (2, 0xff00ff00ff00ff1)], mem := [(0x2000,
      0xf0), (0x2001, 0xf0), (0x2002, 0xf0), (0x2003, 0xf0), (0x2004, 0xf0), (0x2005, 0xf0), (0x2006, 0xf0), (0x2007,
      0xf0)], regs' := [(1, 0x2000), (2, 0xf0f0f0f0f0f0f0f0)], mem' := [(0x2000, 0xf), (0x2001, 0xf0), (0x2002, 0xf),
      (0x2003, 0xf0), (0x2004, 0xf), (0x2005, 0xf0), (0x2006, 0xf), (0x2007, 0xf1)], pc' := 1 },
    { i := .atomicCmpxchg64 1 2 0, regs := [(0, 0xf0f0f0f0f0f0f0f0), (1, 0x2000), (2, 0xff00ff00ff00ff1)], mem :=
      [(0x2000, 0xf0), (0x2001, 0xf0), (0x2002, 0xf0), (0x2003, 0xf0), (0x2004, 0xf0), (0x2005, 0xf0), (0x2006, 0xf0),
      (0x2007, 0xf0)], regs' := [(0, 0xf0f0f0f0f0f0f0f0), (1, 0x2000), (2, 0xff00ff00ff00ff1)], mem' := [(0x2000,
      0xf1), (0x2001, 0xf), (0x2002, 0xf0), (0x2003, 0xf), (0x2004, 0xf0), (0x2005, 0xf), (0x2006, 0xf0), (0x2007,
      0xf)], pc' := 1 },
    { i := .atomicCmpxchg64 1 2 0, endian := .big, regs := [(0, 7), (1, 0x2000), (2, 0xff00ff00ff00ff1)], mem :=
      [(0x2000, 0xf0), (0x2001, 0xf0), (0x2002, 0xf0), (0x2003, 0xf0), (0x2004, 0xf0), (0x2005, 0xf0), (0x2006, 0xf0),
      (0x2007, 0xf0)], regs' := [(0, 0xf0f0f0f0f0f0f0f0), (1, 0x2000), (2, 0xff00ff00ff00ff1)], mem' := [(0x2000,
      0xf0), (0x2001, 0xf0), (0x2002, 0xf0), (0x2003, 0xf0), (0x2004, 0xf0), (0x2005, 0xf0), (0x2006, 0xf0), (0x2007,
      0xf0)], pc' := 1 }] = true := by decide

/-- Table V-imm64 of 96_test_vectors_families.md: one step each. -/
theorem test_exec_imm64_1 : runs [
    { i := .lddw 1 0x55667788 0x11223344, regs' := [(1, 0x1122334455667788)], pc' := 2 },
    { i := .ldMapFd 1 5, mapByFd := [(5, 0x600000)], regs' := [(1, 0x600000)], pc' := 2 },
    { i := .ldMapValFd 1 5 0x10, mapByFd := [(5, 0x999)], mapByIdx := [(5, 0x999)], mapVal := [(0x999, 0x700000)],
      regs' := [(1, 0x700010)], pc' := 2 },
    { i := .ldVarAddr 1 5, varAddr := [(5, 0x600000)], regs' := [(1, 0x600000)], pc' := 2 },
    { i := .ldCodeAddr 1 5, codeAddr := [((0, 5), 0x600000)], regs' := [(1, 0x600000)], pc' := 2 },
    { i := .ldMapIdx 1 5, mapByIdx := [(5, 0x600000)], regs' := [(1, 0x600000)], pc' := 2 },
    { i := .ldMapValIdx 1 5 0x10, mapByFd := [(5, 0x999)], mapByIdx := [(5, 0x999)], mapVal := [(0x999, 0x700000)],
      regs' := [(1, 0x700010)], pc' := 2 }] = true := by decide

/-- Table V-packet of 96_test_vectors_families.md: one step each. -/
theorem test_exec_packet_1 : runs [
    { i := .ldabsw 0xe, pc' := 0, status' := .faulted (.unsupportedGroup 0 .packet) },
    { i := .ldabsh 0xe, pc' := 0, status' := .faulted (.unsupportedGroup 0 .packet) },
    { i := .ldabsb 0xe, pc' := 0, status' := .faulted (.unsupportedGroup 0 .packet) },
    { i := .ldindw 3 0xe, pc' := 0, status' := .faulted (.unsupportedGroup 0 .packet) },
    { i := .ldindh 3 0xe, pc' := 0, status' := .faulted (.unsupportedGroup 0 .packet) },
    { i := .ldindb 3 0xe, pc' := 0, status' := .faulted (.unsupportedGroup 0 .packet) }] = true := by decide
/-! Witnesses: for each statement with hypotheses, concrete states and operands that meet them. -/

/-- R0, R1 and R2 hold values, the others none; the program is empty and no byte is listed. -/
def small : State := State.entry { Params.default with entryRegs := [(0, 7), (1, 0x1001), (2, 5)] } []

/-- The small state with these values in R1 and R2. -/
def holding (a b : Word) : State :=
  State.entry { Params.default with entryRegs := [(0, 7), (1, a), (2, b)] } []

/-- The state after a step, or the state itself where there is none. -/
def after (s : State) (r : Result) : State :=
  match r with
  | .next t => t
  | _ => s

/-- The small state with an instruction placed at its pc. -/
def placed (i : Instr) (s : State := small) : State :=
  { s with params := { s.params with program := encodeSlots .little i } }

/-- The placing clause of `Encoded`: an instruction laid out at pc 0 is fetchable. -/
theorem witness_Encoded :
    Params.fetchable (placed (.add64K 1 5)).params 0 = true ∧
    (placed (.add64K 1 5)).params.program.drop 0 = Fields.toSlot .little ⟨0x07, regBits 1, 0, 0, 5⟩ :: [] := by decide

/-- The placing clause of `EncodedWide`. -/
theorem witness_EncodedWide :
    Params.fetchable (placed (.lddw 1 5 6)).params 0 = true ∧
    (placed (.lddw 1 5 6)).params.program.drop 0
      = Fields.toSlot .little ⟨0x18, regBits 1, 0, 0, 5⟩ :: Fields.toSlot .little ⟨0, 0, 0, 0, 6⟩ :: [] := by decide

/-- The hypotheses of `BadTargetFaults`: a jump out of the program leaves a Running state that fetches nothing. -/
theorem witness_BadTargetFaults :
    ∃ t, exec (.ja 0xffff) small = .next t ∧ exec (.ja32 5) t = .next (Jumped t 6) ∧ t.status = .running ∧
      AdmissibleGroups t.params.groups ∧ Params.fetchable t.params t.pc = false := ⟨_, rfl, rfl, rfl, by decide, rfl⟩

theorem witness_DecodeOfEncode :
    (Instr.add64K 10 0xffffffff).wellFormed = true ∧ (Instr.ldMapIdx 0 0).wellFormed = true := ⟨rfl, rfl⟩

theorem witness_EncodeOfDecode :
    decodeFields ⟨0x34, 10, 0, 1, 0xffffffff⟩ none = .ok (.sdiv32K 10 0xffffffff) ∧
    decodeFields ⟨0x18, 1, 6, 0, 5⟩ (some ⟨0, 0, 0, 0, 9⟩) = .ok (.ldMapValIdx 1 5 9) := ⟨rfl, rfl⟩

/-- The first and last reserved opcodes and the one that begins a second slot. -/
theorem witness_ReservedOpcodes :
    (0x00 : BitVec 8) ∉ definedOpcodes ∧ (0x01 : BitVec 8) ∉ definedOpcodes ∧ (0xff : BitVec 8) ∉ definedOpcodes ∧
    (0x04 : BitVec 8) ∈ definedOpcodes ∧ (0xde : BitVec 8) ∈ definedOpcodes := by decide

theorem witness_WideSecondSlot :
    (⟨0x18, 11, 1, 0, 0⟩ : Fields).opcode = 0x18 ∧
    ¬ ((⟨0, 0, 1, 0, 0⟩ : Fields).opcode = 0 ∧ (⟨0, 0, 1, 0, 0⟩ : Fields).dst = 0 ∧
      (⟨0, 0, 1, 0, 0⟩ : Fields).src = 0 ∧ (⟨0, 0, 1, 0, 0⟩ : Fields).offset = 0) ∧
    (1 : Word32) ≠ 0 ∧ (⟨0x18, 11, 1, 0, 0⟩ : Fields).offset = 0 ∧ (⟨0x18, 11, 1, 0, 0⟩ : Fields).src = 1 ∧
    decodeFields ⟨0x18, 11, 1, 0, 0⟩ (some ⟨0, 0, 0, 0, 1⟩) = .error .nonZeroUnused := by refine ⟨?_, ?_, ?_, ?_, ?_, rfl⟩ <;> decide

/-- Register 11 is the first that does not exist; a fixed field or a sub-opcode above 10 is Reserved. -/
theorem witness_BadRegisterOnlyAtTheEnd :
    decodeFields ⟨0x07, 11, 0, 0, 0⟩ none = .error .badRegister ∧
    decodeFields ⟨0x0f, 10, 15, 0, 0⟩ none = .error .badRegister ∧
    decodeFields ⟨0x40, 0, 11, 0, 0⟩ none = .error .badRegister ∧
    decodeFields ⟨0x07, 10, 0, 0, 0⟩ none = .ok (.add64K 10 0) ∧
    decodeFields ⟨0x07, 12, 12, 0, 0⟩ none = .error .reserved ∧
    decodeFields ⟨0x18, 12, 9, 0, 0⟩ (some ⟨0, 0, 0, 0, 0⟩) = .error .reserved := ⟨rfl, rfl, rfl, rfl, rfl, rfl⟩

/-- A wide instruction has no boundary at its second slot; pc below 0, at the end and at a second slot. -/
theorem witness_BoundariesAreTheLinearSweep :
    let p := encodeSlots .little (.lddw 1 5 6)
    1 < p.length ∧ boundary p 1 = false ∧ boundary p 0 = true ∧
      ({ placed (.lddw 1 5 6) with pc := -1 } : State).pc < 0 ∧
      ((placed (.lddw 1 5 6)).params.program.length : Int) ≤ ({ placed (.lddw 1 5 6) with pc := 2 } : State).pc ∧
      boundary (placed (.lddw 1 5 6)).params.program ({ placed (.lddw 1 5 6) with pc := 1 } : State).pc.toNat = false := by decide

theorem witness_StepRunsTheDecodedInstruction :
    (placed (.add64K 1 5)).status = .running ∧ AdmissibleGroups (placed (.add64K 1 5)).params.groups ∧
    Params.fetchable (placed (.add64K 1 5)).params (placed (.add64K 1 5)).pc = true ∧
    decodeProgram .little ((placed (.add64K 1 5)).params.program.drop 0) = .ok (.add64K 1 5) ∧
    (Instr.add64K 1 5).group ∈ (placed (.add64K 1 5)).params.groups := ⟨rfl, by decide, rfl, rfl, by decide⟩

/-- pc below 0 and at the end of the program; a reserved opcode; an instruction whose group is missing. -/
theorem witness_FaultsOfFetchAndDecode :
    AdmissibleGroups small.params.groups ∧ ({ small with pc := -1 } : State).pc < 0 ∧
    boundary small.params.program small.pc.toNat = false ∧
    (boundary [⟨0xff, 0, 0, 0, 0, 0, 0, 0⟩] 0 = true ∧
      decodeProgram .little [⟨0xff, 0, 0, 0, 0, 0, 0, 0⟩] = .error .reserved) ∧
    AdmissibleGroups [.base32] ∧ decodeProgram .little (encodeSlots .little (.add64K 1 5)) = .ok (.add64K 1 5) ∧
    (Instr.add64K 1 5).group ∉ [Group.base32] := ⟨by decide, by decide, rfl, ⟨rfl, rfl⟩, by decide, rfl, by decide⟩

theorem witness_StoppedMachineHasNoStep :
    ({ small with status := .exited } : State).status ≠ .running ∧
    ({ small with status := .faulted (.badPc 0) } : State).status ≠ .running := by decide

/-- A missing base, an unclosed set, the packet group: each refused; the reset groups: not. -/
theorem witness_InadmissibleGroupsAreRefused :
    ¬ AdmissibleGroups [] ∧ ¬ AdmissibleGroups [.base32, .atomic64] ∧ ¬ AdmissibleGroups [.base32, .packet] ∧
    step { small with params := { small.params with groups := [.base32, .packet] } }
      = .refused .inadmissibleConfiguration ∧ AdmissibleGroups small.params.groups := ⟨by decide, by decide, by decide, rfl, by decide⟩

theorem witness_StepIsTotal :
    small.status = .running ∧ AdmissibleGroups small.params.groups := by decide

theorem witness_FaultChangesNothingElse :
    (small.status = .running ∧ exec (.add64X 1 3) small = .next (Faulted small (.unwrittenRegister 3))) ∧
    step small = .next (Faulted small (.badPc 0)) ∧ (Faulted small (.badPc 0)).status = .faulted (.badPc 0) := ⟨⟨rfl, rfl⟩, rfl, rfl⟩

theorem witness_OnlyExitEndsARun :
    step (placed .exit) = .next { placed .exit with status := .exited } := rfl

theorem witness_ParametersNeverChange :
    exec (.add64K 1 5) small = .next (Wrote small 1 0x1006 1) ∧
    step (placed (.add64K 1 5)) = .next (Wrote (placed (.add64K 1 5)) 1 0x1006 1) := ⟨rfl, rfl⟩

theorem witness_InvariantHoldsAtReset :
    Memory.wf [(0, 1), (2 ^ 64 - 1, 0xff)] := by decide

/-- A program that calls its own slot 0, with one frame below `MAX_CALL_DEPTH` left. -/
def calling : State :=
  { placed (.callLocal 0xffffffff) with
    cs := [⟨1, []⟩], mem := [(5, 1)]
    params := { (placed (.callLocal 0xffffffff)).params with maxCallDepth := some 2 } }

/-- The same with a return to make. -/
def returning : State :=
  { calling with params := { calling.params with program := encodeSlots .little .exit, maxCallDepth := some 1 } }

/-- A call that fills the call stack, and a return to the end of the program. -/
theorem witness_StepKeepsTheInvariant :
    calling.Inv ∧ (∃ t, step calling = .next t ∧ t.cs.length = 2) ∧
    returning.Inv ∧ ∃ t, step returning = .next t ∧ t.pc = 1 ∧ t.cs = [] := by
  refine ⟨⟨by decide, ?_, ?_, by decide⟩, ⟨_, rfl, rfl⟩, ⟨by decide, ?_, ?_, by decide⟩, _, rfl, rfl, rfl⟩
  · intro d h; cases h; decide
  · intro f h; simp only [calling, List.mem_singleton] at h; subst h; exact .inr rfl
  · intro d h; cases h; decide
  · intro f h; simp only [returning, calling, List.mem_singleton] at h; subst h; exact .inr rfl

/-- A store that changes the last byte of the address space. -/
theorem witness_WritesStayInsideAccessible :
    let s := placed (.stb 1 0 0xab) (holding 0xffffffffffffffff 0)
    s.params.environment = Environment.alone ∧ (∀ i, s.fetch = .ok i → NoHelper i) ∧
      ∃ t, step s = .next t ∧ t.mem.read (2 ^ 64 - 1) ≠ s.mem.read (2 ^ 64 - 1) := by
  refine ⟨rfl, ?_, _, rfl, by decide⟩
  intro i h
  have : (placed (.stb 1 0 0xab) (holding 0xffffffffffffffff 0)).fetch = .ok (.stb 1 0 0xab) := rfl
  rw [this] at h
  cases h
  exact fun imm => ⟨nofun, nofun⟩

/-- A state whose program may read the bytes up to 0xff alone. -/
def narrow (m : Memory) : State :=
  { small with mem := m, params := { small.params with accessible := [⟨.read, 1, 0, 0xff⟩] } }

/-- Two states that differ in the byte just past the readable ones. -/
theorem witness_UnreadableBytesAreNotObserved :
    NoHelper (.add64K 1 5) ∧ (narrow [(0x100, 1)]).params.callAbi = CallAbi.bare ∧
    SameVisible (narrow [(0x100, 1)]) (narrow [(0x100, 2)]) ∧ narrow [(0x100, 1)] ≠ narrow [(0x100, 2)] ∧
    ∃ t, exec (.add64K 1 5) (narrow [(0x100, 1)]) = .next t := by
  refine ⟨fun imm => ⟨nofun, nofun⟩, rfl, ⟨rfl, ?_⟩, by decide, _, rfl⟩
  rintro a ⟨g, hg, hk, ea, -, he, h1, h2⟩
  simp only [narrow, List.mem_singleton] at hg
  subst hg
  have hb : ea.toNat ≤ 0xff := he
  have h3 : a ≠ 0x100 := by simp only at h2; omega
  have h4 : (0x100 == a) = false := by simp [Ne.symm h3]
  simp [narrow, Memory.read, Ne.symm h3]

/-- The last eight bytes of the address space. -/
theorem witness_LoadAfterStore :
    (8 : Nat) ∈ [1, 2, 4, 8] ∧ (2 ^ 64 - 8) + 8 ≤ 2 ^ 64 ∧ (1 : Nat) ∈ [1, 2, 4, 8] ∧ (2 ^ 64 - 1) + 1 ≤ 2 ^ 64 := by decide

/-- The last address, another one, the first past the end, and a canonical memory. -/
theorem witness_ByteReadAfterByteWrite :
    2 ^ 64 - 1 < 2 ^ 64 ∧ 0 ≠ 2 ^ 64 - 1 ∧ 2 ^ 64 ≤ 2 ^ 64 ∧ Memory.wf [(0, 1)] := by decide

/-- One slot, two slots, and an instruction of a group that is never admitted. -/
theorem witness_PlacedInstructionIsFetched :
    decodeTableWord 64 0x0500000107 = some (.add64K 1 5) ∧
    decodeTableWord 128 0x00000006000000000000000500000118 = some (.lddw 1 5 6) ∧
    decodeTableWord 64 0x0e00000020 = some (.ldabsw 14) ∧
    (Instr.ldabsw 14).group ∉ (State.reset.withFetchWord 64 0x0e00000020).params.groups ∧
    AdmissibleGroups State.reset.params.groups := by decide

/-- Both operands hold values, the destination holds none, the source alone holds none. -/
theorem witness_Alu32AddSubMulNeg :
    (small.regs[(1 : Reg)] = some 0x1001#64 ∧ small.regs[(2 : Reg)] = some 5#64) ∧
    small.regs[(3 : Reg)] = none ∧ (small.regs[(1 : Reg)] ≠ none ∧ small.regs[(3 : Reg)] = none) ∧
    exec (.add32X 1 2) small = .next (Wrote small 1 0x1006 1) ∧
    exec (.sub32X 1 2) small = .next (Wrote small 1 0xffc 1) ∧
    exec (.mul32X 3 1) small = .next (Faulted small (.unwrittenRegister 3)) ∧
    exec (.mul32X 1 3) small = .next (Faulted small (.unwrittenRegister 3)) := by refine ⟨by decide, by decide, by decide, rfl, rfl, rfl, rfl⟩

/-- Both operands hold values, the destination holds none, the source alone holds none. -/
theorem witness_Alu32DivMod :
    (small.regs[(1 : Reg)] = some 0x1001#64 ∧ small.regs[(2 : Reg)] = some 5#64) ∧
    small.regs[(3 : Reg)] = none ∧ (small.regs[(1 : Reg)] ≠ none ∧ small.regs[(3 : Reg)] = none) ∧
    exec (.div32X 1 2) small = .next (Wrote small 1 0x333 1) ∧
    exec (.mod32X 1 2) small = .next (Wrote small 1 0x2 1) ∧
    exec (.sdiv32X 3 1) small = .next (Faulted small (.unwrittenRegister 3)) ∧
    exec (.sdiv32X 1 3) small = .next (Faulted small (.unwrittenRegister 3)) := by refine ⟨by decide, by decide, by decide, rfl, rfl, rfl, rfl⟩

/-- Both operands hold values, the destination holds none, the source alone holds none. -/
theorem witness_Alu32Logic :
    (small.regs[(1 : Reg)] = some 0x1001#64 ∧ small.regs[(2 : Reg)] = some 5#64) ∧
    small.regs[(3 : Reg)] = none ∧ (small.regs[(1 : Reg)] ≠ none ∧ small.regs[(3 : Reg)] = none) ∧
    exec (.or32X 1 2) small = .next (Wrote small 1 0x1005 1) ∧
    exec (.and32X 1 2) small = .next (Wrote small 1 0x1 1) ∧
    exec (.xor32X 3 1) small = .next (Faulted small (.unwrittenRegister 3)) ∧
    exec (.xor32X 1 3) small = .next (Faulted small (.unwrittenRegister 3)) := by refine ⟨by decide, by decide, by decide, rfl, rfl, rfl, rfl⟩

/-- Both operands hold values, the destination holds none, the source alone holds none. -/
theorem witness_Alu32ShiftMove :
    (small.regs[(1 : Reg)] = some 0x1001#64 ∧ small.regs[(2 : Reg)] = some 5#64) ∧
    small.regs[(3 : Reg)] = none ∧ (small.regs[(1 : Reg)] ≠ none ∧ small.regs[(3 : Reg)] = none) ∧
    exec (.lsh32X 1 2) small = .next (Wrote small 1 0x20020 1) ∧
    exec (.mov32X 1 2) small = .next (Wrote small 1 0x5 1) ∧
    exec (.rsh32X 3 1) small = .next (Faulted small (.unwrittenRegister 3)) ∧
    exec (.rsh32X 1 3) small = .next (Faulted small (.unwrittenRegister 3)) := by refine ⟨by decide, by decide, by decide, rfl, rfl, rfl, rfl⟩

/-- Both operands hold values, the destination holds none, the source alone holds none. -/
theorem witness_Alu64AddSubMulNeg :
    (small.regs[(1 : Reg)] = some 0x1001#64 ∧ small.regs[(2 : Reg)] = some 5#64) ∧
    small.regs[(3 : Reg)] = none ∧ (small.regs[(1 : Reg)] ≠ none ∧ small.regs[(3 : Reg)] = none) ∧
    exec (.add64X 1 2) small = .next (Wrote small 1 0x1006 1) ∧
    exec (.sub64X 1 2) small = .next (Wrote small 1 0xffc 1) ∧
    exec (.mul64X 3 1) small = .next (Faulted small (.unwrittenRegister 3)) ∧
    exec (.mul64X 1 3) small = .next (Faulted small (.unwrittenRegister 3)) := by refine ⟨by decide, by decide, by decide, rfl, rfl, rfl, rfl⟩

/-- Both operands hold values, the destination holds none, the source alone holds none. -/
theorem witness_Alu64DivMod :
    (small.regs[(1 : Reg)] = some 0x1001#64 ∧ small.regs[(2 : Reg)] = some 5#64) ∧
    small.regs[(3 : Reg)] = none ∧ (small.regs[(1 : Reg)] ≠ none ∧ small.regs[(3 : Reg)] = none) ∧
    exec (.div64X 1 2) small = .next (Wrote small 1 0x333 1) ∧
    exec (.mod64X 1 2) small = .next (Wrote small 1 0x2 1) ∧
    exec (.sdiv64X 3 1) small = .next (Faulted small (.unwrittenRegister 3)) ∧
    exec (.sdiv64X 1 3) small = .next (Faulted small (.unwrittenRegister 3)) := by refine ⟨by decide, by decide, by decide, rfl, rfl, rfl, rfl⟩

/-- Both operands hold values, the destination holds none, the source alone holds none. -/
theorem witness_Alu64Logic :
    (small.regs[(1 : Reg)] = some 0x1001#64 ∧ small.regs[(2 : Reg)] = some 5#64) ∧
    small.regs[(3 : Reg)] = none ∧ (small.regs[(1 : Reg)] ≠ none ∧ small.regs[(3 : Reg)] = none) ∧
    exec (.or64X 1 2) small = .next (Wrote small 1 0x1005 1) ∧
    exec (.and64X 1 2) small = .next (Wrote small 1 0x1 1) ∧
    exec (.xor64X 3 1) small = .next (Faulted small (.unwrittenRegister 3)) ∧
    exec (.xor64X 1 3) small = .next (Faulted small (.unwrittenRegister 3)) := by refine ⟨by decide, by decide, by decide, rfl, rfl, rfl, rfl⟩

/-- Both operands hold values, the destination holds none, the source alone holds none. -/
theorem witness_Alu64ShiftMove :
    (small.regs[(1 : Reg)] = some 0x1001#64 ∧ small.regs[(2 : Reg)] = some 5#64) ∧
    small.regs[(3 : Reg)] = none ∧ (small.regs[(1 : Reg)] ≠ none ∧ small.regs[(3 : Reg)] = none) ∧
    exec (.lsh64X 1 2) small = .next (Wrote small 1 0x20020 1) ∧
    exec (.mov64X 1 2) small = .next (Wrote small 1 0x5 1) ∧
    exec (.rsh64X 3 1) small = .next (Faulted small (.unwrittenRegister 3)) ∧
    exec (.rsh64X 1 3) small = .next (Faulted small (.unwrittenRegister 3)) := by refine ⟨by decide, by decide, by decide, rfl, rfl, rfl, rfl⟩

/-- In both byte orders: the register holds a value, or none. -/
theorem witness_ByteSwaps :
    small.regs[(1 : Reg)] = some 0x1001#64 ∧ small.regs[(3 : Reg)] = none ∧
    exec (.be16 1) small = .next (Wrote small 1 0x0110 1) ∧ exec (.le16 1) small = .next (Wrote small 1 0x1001 1) ∧
    small.params.hostEndian = .little ∧ (({ small with params := { small.params with hostEndian := .big } } : State).params.hostEndian = .big) := ⟨rfl, rfl, rfl, rfl, rfl, rfl⟩

/-- A condition that holds at the edge of its range and one that does not, a register without a value, and the
hypotheses of `BadTargetFaults`. -/
theorem witness_JumpsOnEquality :
    (small.regs[(1 : Reg)] = some 0x1001#64 ∧ small.regs[(2 : Reg)] = some 5#64) ∧
    small.regs[(3 : Reg)] = none ∧ (small.regs[(1 : Reg)] ≠ none ∧ small.regs[(3 : Reg)] = none) ∧
    exec (.jeq64X 1 2 3) (holding 5 5) = .next (Jumped (holding 5 5) 4) ∧
    exec (.jne64X 1 2 3) (holding 0xffffffffffffffff 5) = .next (Jumped (holding 0xffffffffffffffff 5) 4) ∧
    exec (.jset64X 1 2 3) (holding 0xffffffffffffffff 0x8000000000000000) = .next (Jumped (holding 0xffffffffffffffff 0x8000000000000000) 4) ∧
    exec (.jeq32K 1 5 3) (holding 6 0) = .next (Jumped (holding 6 0) 1) ∧
    exec (.jne32K 1 5 3) (holding 5 0) = .next (Jumped (holding 5 0) 1) ∧
    exec (.jset32K 1 1 3) (holding 2 0) = .next (Jumped (holding 2 0) 1) ∧
    Params.fetchable (holding 5 5).params 4 = false ∧ AdmissibleGroups (holding 5 5).params.groups := ⟨by decide, by decide, by decide, rfl, rfl, rfl, rfl, rfl, rfl, rfl, by decide⟩

/-- A condition that holds at the edge of its range and one that does not, a register without a value, and the
hypotheses of `BadTargetFaults`. -/
theorem witness_JumpsUnsignedGreater :
    (small.regs[(1 : Reg)] = some 0x1001#64 ∧ small.regs[(2 : Reg)] = some 5#64) ∧
    small.regs[(3 : Reg)] = none ∧ (small.regs[(1 : Reg)] ≠ none ∧ small.regs[(3 : Reg)] = none) ∧
    exec (.jge64X 1 2 3) (holding 5 5) = .next (Jumped (holding 5 5) 4) ∧
    exec (.jgt64X 1 2 3) (holding 0xffffffffffffffff 5) = .next (Jumped (holding 0xffffffffffffffff 5) 4) ∧
    exec (.jgt64X 1 2 3) (holding 5 5) = .next (Jumped (holding 5 5) 1) ∧
    exec (.jge32K 1 1 3) (holding 0 0) = .next (Jumped (holding 0 0) 1) ∧
    Params.fetchable (holding 5 5).params 4 = false ∧ AdmissibleGroups (holding 5 5).params.groups := ⟨by decide, by decide, by decide, rfl, rfl, rfl, rfl, rfl, by decide⟩

/-- A condition that holds at the edge of its range and one that does not, a register without a value, and the
hypotheses of `BadTargetFaults`. -/
theorem witness_JumpsUnsignedLess :
    (small.regs[(1 : Reg)] = some 0x1001#64 ∧ small.regs[(2 : Reg)] = some 5#64) ∧
    small.regs[(3 : Reg)] = none ∧ (small.regs[(1 : Reg)] ≠ none ∧ small.regs[(3 : Reg)] = none) ∧
    exec (.jle64X 1 2 3) (holding 5 5) = .next (Jumped (holding 5 5) 4) ∧
    exec (.jlt64X 1 2 3) (holding 5 0xffffffffffffffff) = .next (Jumped (holding 5 0xffffffffffffffff) 4) ∧
    exec (.jlt64X 1 2 3) (holding 5 5) = .next (Jumped (holding 5 5) 1) ∧
    exec (.jle32K 1 0 3) (holding 1 0) = .next (Jumped (holding 1 0) 1) ∧
    Params.fetchable (holding 5 5).params 4 = false ∧ AdmissibleGroups (holding 5 5).params.groups := ⟨by decide, by decide, by decide, rfl, rfl, rfl, rfl, rfl, by decide⟩

/-- A condition that holds at the edge of its range and one that does not, a register without a value, and the
hypotheses of `BadTargetFaults`. -/
theorem witness_JumpsSignedGreater :
    (small.regs[(1 : Reg)] = some 0x1001#64 ∧ small.regs[(2 : Reg)] = some 5#64) ∧
    small.regs[(3 : Reg)] = none ∧ (small.regs[(1 : Reg)] ≠ none ∧ small.regs[(3 : Reg)] = none) ∧
    exec (.jsge64X 1 2 3) (holding 0x8000000000000000 0x8000000000000000) = .next (Jumped (holding 0x8000000000000000 0x8000000000000000) 4) ∧
    exec (.jsgt64X 1 2 3) (holding 0 0xffffffffffffffff) = .next (Jumped (holding 0 0xffffffffffffffff) 4) ∧
    exec (.jsgt64X 1 2 3) (holding 0xffffffffffffffff 0) = .next (Jumped (holding 0xffffffffffffffff 0) 1) ∧
    exec (.jsge32K 1 1 3) (holding 0x80000000 0) = .next (Jumped (holding 0x80000000 0) 1) ∧
    Params.fetchable (holding 0x8000000000000000 0x8000000000000000).params 4 = false ∧ AdmissibleGroups (holding 0x8000000000000000 0x8000000000000000).params.groups := ⟨by decide, by decide, by decide, rfl, rfl, rfl, rfl, rfl, by decide⟩

/-- A condition that holds at the edge of its range and one that does not, a register without a value, and the
hypotheses of `BadTargetFaults`. -/
theorem witness_JumpsSignedLess :
    (small.regs[(1 : Reg)] = some 0x1001#64 ∧ small.regs[(2 : Reg)] = some 5#64) ∧
    small.regs[(3 : Reg)] = none ∧ (small.regs[(1 : Reg)] ≠ none ∧ small.regs[(3 : Reg)] = none) ∧
    exec (.jsle64X 1 2 3) (holding 0x7fffffffffffffff 0x7fffffffffffffff) = .next (Jumped (holding 0x7fffffffffffffff 0x7fffffffffffffff) 4) ∧
    exec (.jslt64X 1 2 3) (holding 0xffffffffffffffff 0) = .next (Jumped (holding 0xffffffffffffffff 0) 4) ∧
    exec (.jslt64X 1 2 3) (holding 0 0xffffffffffffffff) = .next (Jumped (holding 0 0xffffffffffffffff) 1) ∧
    exec (.jsle32K 1 0xffffffff 3) (holding 0 0) = .next (Jumped (holding 0 0) 1) ∧
    Params.fetchable (holding 0x7fffffffffffffff 0x7fffffffffffffff).params 4 = false ∧ AdmissibleGroups (holding 0x7fffffffffffffff 0x7fffffffffffffff).params.groups := ⟨by decide, by decide, by decide, rfl, rfl, rfl, rfl, rfl, by decide⟩

/-- The hypotheses of `BadTargetFaults`: targets below and past the program. -/
theorem witness_UnconditionalJumps :
    (∃ t, exec (.ja 0x8000) small = .next t ∧ t.pc = -32767 ∧ t.status = .running ∧ Params.fetchable t.params t.pc = false) ∧
    (∃ t, exec (.ja32 0x7fffffff) small = .next t ∧ t.pc = 2147483648 ∧ t.status = .running ∧
      Params.fetchable t.params t.pc = false) ∧ AdmissibleGroups small.params.groups := ⟨⟨_, rfl, rfl, rfl, rfl⟩, ⟨_, rfl, rfl, rfl, rfl⟩, by decide⟩

/-- A full call stack, one frame short of it, and no limit; then the hypotheses of `BadTargetFaults`. -/
theorem witness_LocalCalls :
    (returning.params.maxCallDepth = some 1 ∧ returning.cs.length ≥ 1) ∧
    (calling.params.maxCallDepth = some 2 ∧ calling.cs.length < 2) ∧
    (small.params.maxCallDepth = none ∧ small.params.callAbi = CallAbi.bare) ∧
    ∃ t, exec (.callLocal 5) small = .next t ∧ t.status = .running ∧ AdmissibleGroups t.params.groups ∧
      Params.fetchable t.params t.pc = false := ⟨by decide, by decide, by decide, _, rfl, rfl, by decide, rfl⟩

/-- An empty call stack, and one with a bare frame. -/
theorem witness_ExitInstruction :
    small.cs = [] ∧ calling.cs = ⟨1, []⟩ :: [] ∧ calling.params.callAbi = CallAbi.bare := ⟨rfl, rfl, rfl⟩

/-- A state whose `CALL_ABI` saves R6 and R2. -/
def saving : State :=
  { small with params := { small.params with callAbi := { saved := [6, 2], onCall := [(2, .absent)], onReturn := [] } } }

/-- A call and a return that restores R2, with and without saved registers. -/
theorem witness_ExitReturnsToTheCaller :
    (∃ t w, exec (.callLocal 5) saving = .next t ∧ t.status = .running ∧ saving.status = .running ∧
      t.params = saving.params ∧ t.regs[(2 : Reg)] = none ∧ exec .exit t = .next w ∧
      saving.params.callAbi.onReturn = [] ∧ w.regs[(2 : Reg)] = some 5#64) ∧
    ∃ t w, exec (.callLocal 5) small = .next t ∧ t.status = .running ∧ exec .exit t = .next w ∧ w.regs = small.regs := ⟨⟨_, _, rfl, rfl, rfl, rfl, rfl, rfl, rfl, rfl⟩, _, _, rfl, rfl, rfl, rfl⟩

/-- A state with helpers: one that relates nothing, one left open, one that adds R1 and R2, one with
a choice, one that sets R0 to three times R2 by a loop and makes R1 unreadable, and one that picks the 2 of 0 to 3. -/
def helped : State :=
  { small with
    params := { small.params with
      helpers := [(1, .fail),
        (2, .seq (.test (.free (.const 0))) (.seq .anyMem (.setReg 0 (.free (.const 1))))),
        (3, .setReg 0 (.op .add (.reg 1) (.reg 2))),
        (4, .either (.setReg 0 (.const 8)) (.setReg 0 (.const 9))),
        (5, .seq (.setVar 0 (.const 0)) (.seq (.loop (.const 3) (.setVar 0 (.op .add (.var 0) (.reg 2))))
          (.seq (.setReg 0 (.var 0)) (.setReg 1 .absent)))),
        (6, .seq (.pick 0 (.const 3)) (.seq (.test (.op .eq (.var 0) (.const 2))) (.setReg 0 (.var 0))))]
      btfHelpers := [(3, .store 4 (.reg 1) (.reg 2))] } }

/-- No helper, one that relates the state to nothing, and one that relates it to one state. -/
theorem witness_HelperCalls :
    helped.params.helpers.lookup 0 = none ∧
    (helped.params.helpers.lookup 1 = some .fail ∧ ∀ y, ¬ HelperLeaves helped (.helper 1) .fail y) ∧
    (helped.params.helpers.lookup 3 = some (.setReg 0 (.op .add (.reg 1) (.reg 2))) ∧
      ∃ y, HelperLeaves helped (.helper 3) (.setReg 0 (.op .add (.reg 1) (.reg 2))) y) := ⟨rfl, ⟨rfl, fun _ h => h⟩, ⟨rfl, _, rfl⟩⟩

/-- A relation with a loop and a register left without a value. -/
theorem test_helper_loop : (match exec (.callHelper 5) helped with
      | .next t =>
        t.regs[(0 : Reg)] == some 15#64 && t.regs[(1 : Reg)] == none && t.regs[(2 : Reg)] == some 5#64 && t.pc == 1
      | _ => false) = true := by decide

/-- A relation that picks among values and keeps one. -/
theorem test_helper_pick : (match exec (.callHelper 6) helped with
      | .next t => t.regs[(0 : Reg)] == some 2#64
      | _ => false) = true := by decide

/-- A helper that adds, one that stores at an address a register holds, and one with a choice. -/
theorem witness_HelperCallsComplete :
    (helped.params.helpers.lookup 3 = some (.setReg 0 (.op .add (.reg 1) (.reg 2))) ∧
      HelperLeaves helped (.helper 3) (.setReg 0 (.op .add (.reg 1) (.reg 2)))
        { regs := small.regs.set 0 (some 0x1006), mem := [], vars := [] } ∧
      helped.regs[(1 : Reg)] = some 0x1001#64 ∧ helped.regs[(2 : Reg)] = some 5#64) ∧
    exec (.callHelper 3) helped = .next (Wrote helped 0 0x1006 1) ∧
    (helped.params.btfHelpers.lookup 3 = some (.store 4 (.reg 1) (.reg 2)) ∧ (0x1001 : Word).toNat + 4 ≤ 2 ^ 64 ∧
      exec (.callBtf 3) helped = .next (Stored helped [(0x1001, 5)])) ∧
    (helped.params.helpers.lookup 4 = some (.either (.setReg 0 (.const 8)) (.setReg 0 (.const 9))) ∧
      HelperLeaves helped (.helper 4) (.either (.setReg 0 (.const 8)) (.setReg 0 (.const 9)))
        { regs := small.regs.set 0 (some 9), mem := [], vars := [] }) := ⟨⟨rfl, rfl, rfl, rfl⟩, rfl, ⟨rfl, by decide, rfl⟩, rfl, .inr rfl⟩

/-- A state with another agent: one listed turn, and then one that adds 1 to the byte at 0x2000 over and over. -/
def shared (ticks : Nat) (act : HelperRel) : State :=
  { small with
    ticks := ticks
    params := { small.params with
      environment := { turns := [⟨[(0x2000, 7)], .skip, []⟩], rest := .cycle [⟨[], act, []⟩] } } }

/-- The relation that adds 1 to the byte at 0x2000. -/
def addOne : HelperRel := .store 1 (.const 0x2000) (.op .add (.load 1 (.const 0x2000)) (.const 1))

/-- The last listed turn, the turn after it and one long after, a turn that relates memory to nothing, and no agent.
-/
theorem witness_EnvironmentActsFirst :
    (∃ u, (shared 0 addOne).params.environment.turns[(shared 0 addOne).ticks]? = some u ∧ (shared 0 addOne).turn = some u ∧
      (∃ y, TurnLeaves (shared 0 addOne) u y) ∧ (AfterEnvironment (shared 0 addOne)).mem = [(0x2000, 7)]) ∧
    (shared 1 addOne).ticks = (shared 1 addOne).params.environment.turns.length + 0 ∧
    (shared 1 addOne).params.environment.rest = .cycle [⟨[], addOne, []⟩] ∧
    (AfterEnvironment (shared 1000 addOne)).mem = [(0x2000, 1)] ∧
    (shared 1 .fail).turn = some ⟨[], .fail, []⟩ ∧ (∀ y, ¬ TurnLeaves (shared 1 .fail) ⟨[], .fail, []⟩ y) ∧
    small.turn = none ∧ small.params.environment = Environment.alone ∧ small.params.environment.rest = .silent ∧
    ({ turns := [], rest := .free } : Environment).rest = .free ∧
    small.status = .running ∧ AdmissibleGroups small.params.groups := ⟨⟨_, rfl, rfl, ⟨_, rfl⟩, rfl⟩, rfl, rfl, rfl, rfl, fun _ h => h, rfl, rfl, rfl, rfl, rfl, by decide⟩

/-- A state that performs misaligned accesses and lets the program at `first` to `last` alone. -/
def performing (first last : Word) (base v : Word) : State :=
  { holding base v with
    params := { (holding base v).params with misaligned := .perform, accessible := Grant.region first last } }

/-- A whole-space grant admits an access that ends at 2^64. -/
theorem accessible_last (kind : AccessKind) (n : Nat) (first last ea : Word) (s : State)
    (hg : ⟨kind, n, first, last⟩ ∈ s.params.accessible) (h1 : first.toNat ≤ ea.toNat) (h2 : ea.toNat ≤ last.toNat) :
    Accessible s ea n kind := ⟨_, hg, rfl, rfl, h1, h2⟩

/-- An access that ends at 2^64, one that passes it, a misaligned one, one just outside the accessible bytes, and
registers without values. -/
theorem witness_Loads :
    Admitted (holding 0xffffffffffffffff 5) 0xffffffffffffffff 1 .read ∧
    Admitted (holding 0xfffffffffffffffe 5) 0xfffffffffffffffe 2 .read ∧
    Admitted (holding 0xfffffffffffffffc 5) 0xfffffffffffffffc 4 .read ∧
    Admitted (holding 0xfffffffffffffff8 5) 0xfffffffffffffff8 8 .read ∧
    (∀ n ∈ [1, 2, 4, 8], ((2 : Nat) ^ 64 - n) % n = 0) ∧
    (Admitted (performing 0x1000 0x10ff 0x1001 5) 0x1001 8 .read ∧ Quiet (performing 0x1000 0x10ff 0x1001 5) 0x1001 8) ∧
    ¬ AlignedEnough (holding 0x1001 5) 0x1001 2 .read ∧
    (2 ^ 64 < (0xfffffffffffffff9 : Word).toNat + 8 ∧ (0xfffffffffffffff8 : Word).toNat + 8 ≤ 2 ^ 64) ∧
    (¬ Accessible (performing 0x1000 0x10ff 0x1100 5) 0x1100 8 .read ∧ AlignedEnough (performing 0x1000 0x10ff 0x1100 5) 0x1100 8 .read) ∧
    small.regs[(3 : Reg)] = none ∧ (holding 0x1000 5).regs[(1 : Reg)] = some 0x1000#64 ∧
    (small.regs[(1 : Reg)] ≠ none ∧ small.regs[(3 : Reg)] = none) := ⟨⟨by decide, .inl (by decide), accessible_last _ _ 0 0xffffffffffffffff _ _ (by decide) (by decide) (by decide)⟩,
    ⟨by decide, .inl (by decide), accessible_last _ _ 0 0xfffffffffffffffe _ _ (by decide) (by decide) (by decide)⟩,
    ⟨by decide, .inl (by decide), accessible_last _ _ 0 0xfffffffffffffffc _ _ (by decide) (by decide) (by decide)⟩,
    ⟨by decide, .inl (by decide), accessible_last _ _ 0 0xfffffffffffffff8 _ _ (by decide) (by decide) (by decide)⟩,
    by decide,
    ⟨⟨by decide, .inr ⟨by decide, rfl⟩, accessible_last _ _ 0x1000 0x10f8 _ _ (by decide) (by decide) (by decide)⟩, .inr fun t h => nomatch (show (none : Option EnvTurn) = some t from h)⟩,
    by decide,
    by decide,
    ⟨by decide, .inl (by decide)⟩,
    rfl, rfl, by decide⟩

/-- An access that ends at 2^64, one that passes it, a misaligned one, one just outside the accessible bytes, and
registers without values. -/
theorem witness_Stores :
    Admitted (holding 0xffffffffffffffff 5) 0xffffffffffffffff 1 .write ∧
    Admitted (holding 0xfffffffffffffffe 5) 0xfffffffffffffffe 2 .write ∧
    Admitted (holding 0xfffffffffffffffc 5) 0xfffffffffffffffc 4 .write ∧
    Admitted (holding 0xfffffffffffffff8 5) 0xfffffffffffffff8 8 .write ∧
    (∀ n ∈ [1, 2, 4, 8], ((2 : Nat) ^ 64 - n) % n = 0) ∧
    (Admitted (performing 0x1000 0x10ff 0x1001 5) 0x1001 8 .write ∧ Quiet (performing 0x1000 0x10ff 0x1001 5) 0x1001 8) ∧
    ¬ AlignedEnough (holding 0x1001 5) 0x1001 2 .write ∧
    (2 ^ 64 < (0xfffffffffffffff9 : Word).toNat + 8 ∧ (0xfffffffffffffff8 : Word).toNat + 8 ≤ 2 ^ 64) ∧
    (¬ Accessible (performing 0x1000 0x10ff 0x1100 5) 0x1100 8 .write ∧ AlignedEnough (performing 0x1000 0x10ff 0x1100 5) 0x1100 8 .write) ∧
    small.regs[(3 : Reg)] = none ∧ (holding 0x1000 5).regs[(1 : Reg)] = some 0x1000#64 ∧
    (small.regs[(1 : Reg)] ≠ none ∧ small.regs[(3 : Reg)] = none) := ⟨⟨by decide, .inl (by decide), accessible_last _ _ 0 0xffffffffffffffff _ _ (by decide) (by decide) (by decide)⟩,
    ⟨by decide, .inl (by decide), accessible_last _ _ 0 0xfffffffffffffffe _ _ (by decide) (by decide) (by decide)⟩,
    ⟨by decide, .inl (by decide), accessible_last _ _ 0 0xfffffffffffffffc _ _ (by decide) (by decide) (by decide)⟩,
    ⟨by decide, .inl (by decide), accessible_last _ _ 0 0xfffffffffffffff8 _ _ (by decide) (by decide) (by decide)⟩,
    by decide,
    ⟨⟨by decide, .inr ⟨by decide, rfl⟩, accessible_last _ _ 0x1000 0x10f8 _ _ (by decide) (by decide) (by decide)⟩, .inr fun t h => nomatch (show (none : Option EnvTurn) = some t from h)⟩,
    by decide,
    by decide,
    ⟨by decide, .inl (by decide)⟩,
    rfl, rfl, by decide⟩

/-- Another agent that writes inside and beside a torn access of the step, whose bytes go in falling order. -/
def torn (n : Nat) : State :=
  let s := performing 0x1000 0x10ff 0x1001 0x1122334455667788
  { s with params := { s.params with
    environment := { turns := [⟨[(0x1001, 1)], .skip, (List.range n).reverse.map fun k => (k, [(0x1001, 2), (0x1020, 3)])⟩], rest := .silent } } }

/-- Torn loads and stores of each width, by an agent that writes one of the bytes and a byte beside them meanwhile. -/
theorem witness_TornAccesses :
    (∀ n ∈ [2, 4, 8], (torn n).regs[(1 : Reg)] = some 0x1001#64 ∧ (torn n).regs[(2 : Reg)] = some 0x1122334455667788#64 ∧
      TornBy (torn n) n ((List.range n).reverse.map fun k => (k, [(0x1001, 2), (0x1020, 3)]))) ∧
    (∀ kind ∈ [AccessKind.read, .write], ∀ n ∈ [2, 4, 8], Admitted (torn n) 0x1001 n kind ∧ (0x1001 : Word).toNat % n ≠ 0) ∧
    (List.range 2).reverse.map (fun k => (k, [((0x1001 : Nat), (2 : Byte)), (0x1020, 3)]))
      = [(1, [(0x1001, 2), (0x1020, 3)])] ++ (0, [(0x1001, 2), (0x1020, 3)]) :: [] ∧
    (∃ t, exec (.ldxh 3 1 0) (torn 2) = .next t ∧ t.regs[(3 : Reg)] = some 2#64 ∧ t.mem = [(0x1001, 2), (0x1020, 3)]) ∧
    (∃ t, exec (.stxh 1 2 0) (torn 2) = .next t ∧ t.mem = [(0x1001, 0x88), (0x1002, 0x77), (0x1020, 3)]) ∧
    ∃ t, exec (.sth 1 0 0xfffffffe) (torn 2) = .next t ∧ t.mem = [(0x1001, 0xfe), (0x1002, 0xff), (0x1020, 3)] := by
  refine ⟨?_, ?_, rfl, ⟨_, rfl, rfl, rfl⟩, ⟨_, rfl, rfl⟩, _, rfl, rfl⟩
  · intro n hn
    simp only [List.mem_cons, List.not_mem_nil, or_false] at hn
    rcases hn with rfl | rfl | rfl <;> exact ⟨rfl, rfl, _, rfl, rfl, by decide⟩
  · intro kind hk n hn
    simp only [List.mem_cons, List.not_mem_nil, or_false] at hk hn
    rcases hk with rfl | rfl <;> rcases hn with rfl | rfl | rfl <;>
      exact ⟨⟨by decide, .inr ⟨by decide, rfl⟩, by decide⟩, by decide⟩

/-- An access that ends at 2^64, one that passes it, a misaligned one, one just outside the accessible bytes, and
registers without values. -/
theorem witness_AtomicsWithoutFetch :
    Admitted (holding 0xfffffffffffffffc 5) 0xfffffffffffffffc 4 .atomic ∧
    Admitted (holding 0xfffffffffffffff8 5) 0xfffffffffffffff8 8 .atomic ∧
    ¬ AlignedEnough (performing 0x1000 0x10ff 0x1001 5) 0x1001 4 .atomic ∧
    (2 ^ 64 < (0xfffffffffffffff9 : Word).toNat + 8 ∧ (0xfffffffffffffff8 : Word).toNat + 8 ≤ 2 ^ 64) ∧
    (¬ Accessible (performing 0x1000 0x10ff 0x1100 5) 0x1100 8 .atomic ∧ AlignedEnough (performing 0x1000 0x10ff 0x1100 5) 0x1100 8 .atomic) ∧
    small.regs[(3 : Reg)] = none ∧ (holding 0x1000 5).regs[(1 : Reg)] = some 0x1000#64 ∧
    (small.regs[(1 : Reg)] ≠ none ∧ small.regs[(3 : Reg)] = none) := ⟨⟨by decide, .inl (by decide), accessible_last _ _ 0 0xfffffffffffffffc _ _ (by decide) (by decide) (by decide)⟩,
    ⟨by decide, .inl (by decide), accessible_last _ _ 0 0xfffffffffffffff8 _ _ (by decide) (by decide) (by decide)⟩,
    by decide,
    by decide,
    ⟨by decide, .inl (by decide)⟩,
    rfl, rfl, by decide⟩

/-- An access that ends at 2^64, one that passes it, a misaligned one, one just outside the accessible bytes, and
registers without values. -/
theorem witness_AtomicsWithFetch :
    Admitted (holding 0xfffffffffffffffc 5) 0xfffffffffffffffc 4 .atomic ∧
    Admitted (holding 0xfffffffffffffff8 5) 0xfffffffffffffff8 8 .atomic ∧
    ¬ AlignedEnough (performing 0x1000 0x10ff 0x1001 5) 0x1001 4 .atomic ∧
    (2 ^ 64 < (0xfffffffffffffff9 : Word).toNat + 8 ∧ (0xfffffffffffffff8 : Word).toNat + 8 ≤ 2 ^ 64) ∧
    (¬ Accessible (performing 0x1000 0x10ff 0x1100 5) 0x1100 8 .atomic ∧ AlignedEnough (performing 0x1000 0x10ff 0x1100 5) 0x1100 8 .atomic) ∧
    small.regs[(3 : Reg)] = none ∧ (holding 0x1000 5).regs[(1 : Reg)] = some 0x1000#64 ∧
    (small.regs[(1 : Reg)] ≠ none ∧ small.regs[(3 : Reg)] = none) := ⟨⟨by decide, .inl (by decide), accessible_last _ _ 0 0xfffffffffffffffc _ _ (by decide) (by decide) (by decide)⟩,
    ⟨by decide, .inl (by decide), accessible_last _ _ 0 0xfffffffffffffff8 _ _ (by decide) (by decide) (by decide)⟩,
    by decide,
    by decide,
    ⟨by decide, .inl (by decide)⟩,
    rfl, rfl, by decide⟩

/-- An access that ends at 2^64, one that passes it, a misaligned one, one just outside the accessible bytes, and
registers without values. -/
theorem witness_AtomicCompareExchange :
    Admitted (holding 0xfffffffffffffffc 5) 0xfffffffffffffffc 4 .atomic ∧
    Admitted (holding 0xfffffffffffffff8 5) 0xfffffffffffffff8 8 .atomic ∧
    ¬ AlignedEnough (performing 0x1000 0x10ff 0x1001 5) 0x1001 4 .atomic ∧
    (2 ^ 64 < (0xfffffffffffffff9 : Word).toNat + 8 ∧ (0xfffffffffffffff8 : Word).toNat + 8 ≤ 2 ^ 64) ∧
    (¬ Accessible (performing 0x1000 0x10ff 0x1100 5) 0x1100 8 .atomic ∧ AlignedEnough (performing 0x1000 0x10ff 0x1100 5) 0x1100 8 .atomic) ∧
    small.regs[(3 : Reg)] = none ∧ (holding 0x1000 5).regs[(1 : Reg)] = some 0x1000#64 ∧
    (small.regs[(1 : Reg)] ≠ none ∧ small.regs[(3 : Reg)] = none) ∧
    small.regs[(0 : Reg)] = some 7#64 ∧
    (State.entry { Params.default with entryRegs := [(1, 0x1000), (2, 5)] } []).regs[(0 : Reg)] = none ∧
    exec (.atomicCmpxchg64 1 2 0) (holding 0x1000 5) = .next (Wrote (holding 0x1000 5) 0 0 1) := ⟨⟨by decide, .inl (by decide), accessible_last _ _ 0 0xfffffffffffffffc _ _ (by decide) (by decide) (by decide)⟩,
    ⟨by decide, .inl (by decide), accessible_last _ _ 0 0xfffffffffffffff8 _ _ (by decide) (by decide) (by decide)⟩,
    by decide,
    by decide,
    ⟨by decide, .inl (by decide)⟩,
    rfl, rfl, by decide, rfl, rfl, rfl⟩

/-- A state whose platform knows map 5, its value area, variable 5 and code 5 from slot 0. -/
def platform : State :=
  { small with
    params := { small.params with
      mapByFd := [(5, 0x600000)], mapByIdx := [(5, 0x600000)], mapVal := [(0x600000, 0x700000)]
      varAddr := [(5, 0x800000)], codeAddr := [((0, 5), 0x900000)] } }

/-- What each platform function gives, and an argument where it gives nothing. -/
theorem witness_WideImmediateLoads :
    platform.params.mapByFd.lookup 5 = some 0x600000#64 ∧ platform.params.mapByFd.lookup 6 = none ∧
    platform.params.mapByIdx.lookup 5 = some 0x600000#64 ∧ platform.params.mapByIdx.lookup 6 = none ∧
    ((platform.params.mapByFd.lookup 5).bind fun m => platform.params.mapVal.lookup m) = some 0x700000#64 ∧
    ((platform.params.mapByIdx.lookup 5).bind fun m => platform.params.mapVal.lookup m) = some 0x700000#64 ∧
    platform.params.varAddr.lookup 5 = some 0x800000#64 ∧ platform.params.varAddr.lookup 6 = none ∧
    platform.params.codeAddr.lookup (platform.pc, Int.ofNat 5) = some 0x900000#64 ∧
    platform.params.codeAddr.lookup (platform.pc, -1) = none ∧
    exec (.ldMapValFd 1 5 0xffffffff) platform = .next (Wrote platform 1 0x6fffff 2) ∧
    exec (.ldCodeAddr 1 0xffffffff) platform = .next (Faulted platform (.platformFault .noCodeAddress 0xffffffff)) := ⟨rfl, rfl, rfl, rfl, rfl, rfl, rfl, rfl, rfl, rfl, rfl, rfl⟩

/-- A zero opcode, and a pc at the second slot of a wide instruction. -/
theorem witness_SecondSlotIsNeverAnInstruction :
    (⟨0, 15, 15, 1, 1⟩ : Fields).opcode = 0 ∧ Sweep (placed (.lddw 1 5 6)).params.program 0 ∧
    (∃ w, (placed (.lddw 1 5 6)).params.program[0]? = some w ∧ w.b0 = 0x18) ∧
    ({ placed (.lddw 1 5 6) with pc := 1 } : State).pc = (0 : Nat) + 1 := ⟨rfl, .start, ⟨_, rfl, rfl⟩, rfl⟩

/-- The placing clause of `Encoded` for a packet load. -/
theorem witness_PacketLoadsAreUnsupported :
    Params.fetchable (placed (.ldindb 3 14)).params 0 = true ∧
    (placed (.ldindb 3 14)).params.program.drop 0 = Fields.toSlot .little ⟨0x50, 0, regBits 3, 0, 14⟩ :: [] ∧
    (placed (.ldindb 3 14)).fetch = .error (.unsupportedGroup 0 .packet) := ⟨rfl, rfl, rfl⟩

/-- Each of the three reads without a value, all of them with one; a state in which every register holds one. -/
theorem witness_ReadsCheckedInOrder :
    (reads (.add64X 3 4) = [] ++ 3 :: [4] ∧ small.regs[(3 : Reg)] = none) ∧
    (reads (.add64X 1 3) = [1] ++ 3 :: [] ∧ ∀ q ∈ [(1 : Reg)], small.regs[q] ≠ none) ∧
    (reads (.atomicCmpxchg64 1 2 0) = [1, 2] ++ 0 :: [] ∧
      (State.entry { Params.default with entryRegs := [(1, 0x1001), (2, 5)] } []).regs[(0 : Reg)] = none ∧
      ∀ q ∈ [(1 : Reg), 2], (State.entry { Params.default with entryRegs := [(1, 0x1001), (2, 5)] } []).regs[q] ≠ none) ∧
    (small.status = .running ∧ (∀ q ∈ reads (.add64X 1 2), small.regs[q] ≠ none) ∧
      exec (.add64X 1 2) small = .next (Wrote small 1 0x1006 1) ∧ (∀ tr, (Wrote small 1 0x1006 1).status ≠ .faulted tr)) ∧
    NoHelper (.add64X 1 3) ∧ State.reset.params.callAbi = CallAbi.bare ∧ (∀ f ∈ State.reset.cs, f.saved = []) ∧
    (∀ r : Reg, State.reset.regs[r] ≠ none) ∧ ∃ t, exec (.add64X 1 3) State.reset = .next t := ⟨⟨rfl, rfl⟩, ⟨rfl, by decide⟩, ⟨rfl, rfl, by decide⟩, ⟨rfl, by decide, rfl, nofun⟩, fun imm => ⟨nofun, nofun⟩, rfl,
    by decide, by decide, _, rfl⟩

end Sys2Proof.Tests
end

section
/-! What executing an instruction can do, said once: `exec_effect` sorts the outcome of every instruction into the few
shapes of `ExecEffect`, so that a property of all steps is proved by a case split over the shapes and not over the
instructions. -/

namespace Sys2Proof.Machine

/-- The outcomes of executing `i` in `s`. Every shape is a next state; the ones that transfer bytes carry the admission of
their access, and the ones of EXIT and of the calls carry the instruction and the condition they happen under. -/
inductive ExecEffect (i : Instr) (s : State) : Result → Prop
  /-- The instruction traps (rule R400). -/
  | fault (t : Trap) : ExecEffect i s (.next (s.raise t))
  /-- The pc alone changes: a jump, taken or not. -/
  | goto (t : Int) : ExecEffect i s (.next (s.goto t))
  /-- One register is written, by an instruction of `slots` slots. -/
  | wrote (dst : Reg) (v : Word) (slots : Nat) : ExecEffect i s (.next ((s.setReg dst v).advance slots))
  /-- A load; memory is what a torn access leaves (rule R45). -/
  | loaded (ea : Word) (n : Nat) (dst : Reg) (v : Word) (admitted : s.refuses ea n .read = none) :
      ExecEffect i s (.next (((s.setMem (s.memRead ea n).2).setReg dst v).advance 1))
  /-- A store. -/
  | stored (ea : Word) (n : Nat) (v : Word) (admitted : s.refuses ea n .write = none) :
      ExecEffect i s (.next ((s.setMem (s.memWrite ea n v)).advance 1))
  /-- An atomic without FETCH. -/
  | atomic (ea : Word) (n : Nat) (f : Word → Word) (admitted : s.refuses ea n .atomic = none) :
      ExecEffect i s (.next ((s.setMem (s.atomicRMW ea n f).2).advance 1))
  /-- An atomic that writes the old value to a register. -/
  | atomicFetched (ea : Word) (n : Nat) (f : Word → Word) (dst : Reg) (v : Word)
      (admitted : s.refuses ea n .atomic = none) :
      ExecEffect i s (.next (((s.setMem (s.atomicRMW ea n f).2).setReg dst v).advance 1))
  /-- A helper call whose relation answers `y` (rules R251, R253). -/
  | helper (imm : Word32) (site : FreeSite) (h : HelperRel) (y : PlatformState)
      (isCall : i = .callHelper imm ∨ i = .callBtf imm)
      (related : y ∈ HelperRel.outcomes (s.siteOf site) h s.platformState) :
      ExecEffect i s (.next (({ s with regs := y.regs, mem := y.mem }).advance 1))
  /-- A program-local call below the depth limit (rule R252). -/
  | call (imm : Word32) (isCall : i = .callLocal imm) (room : s.callStackFull = false) :
      ExecEffect i s (.next (s.call (jumpTarget s.pc imm)))
  /-- EXIT with a frame to return to (rule R254). -/
  | ret (frame : Frame) (rest : List Frame) (isExit : i = .exit) (frames : s.cs = frame :: rest) :
      ExecEffect i s (.next (s.ret frame rest))
  /-- EXIT that ends the run (rule R254). -/
  | exited (isExit : i = .exit) (empty : s.cs = []) : ExecEffect i s (.next { s with status := .exited })

/-- Executing an instruction always answers a next state (rule R400: a fault is a next state too). -/
theorem ExecEffect.isNext {i : Instr} {s : State} {r : Result} (h : ExecEffect i s r) : ∃ t, r = .next t := by
  cases h <;> exact ⟨_, rfl⟩

section SharedOperations

variable {i : Instr} {s : State}

theorem withReg_effect {r : Reg} {k : Word → Result} (h : ∀ v, ExecEffect i s (k v)) :
    ExecEffect i s (s.withReg r k) := by
  obtain ⟨v, -, hv⟩ | ⟨-, hf⟩ := s.withReg_cases r k
  · exact hv ▸ h v
  · exact hf ▸ .fault _

theorem withAccess_effect {ea : Word} {n : Nat} {kind : AccessKind} {k : Result}
    (h : s.refuses ea n kind = none → ExecEffect i s k) : ExecEffect i s (s.withAccess ea n kind k) := by
  obtain ⟨hok, hk⟩ | ⟨r, -, hf⟩ := s.withAccess_cases ea n kind k
  · rw [hk]
    exact h hok
  · exact hf ▸ .fault _

theorem branch_effect {taken : Bool} {offset : BitVec 16} : ExecEffect i s (s.branch taken offset) := by
  cases taken
  · exact .goto (s.pc + (1 : Nat))
  · exact .goto (jumpTarget s.pc offset)

theorem loadAddress_effect {dst : Reg} {imm : Word32} {what : PlatformReason} {v : Option Word} :
    ExecEffect i s (s.loadAddress dst imm what v) := by
  obtain ⟨a, -, ha⟩ | ⟨-, hf⟩ := s.loadAddress_cases dst imm what v
  · exact ha ▸ .wrote dst a 2
  · exact hf ▸ .fault _

theorem callPlatform_effect {site : FreeSite} {table : List (Word32 × HelperRel)} {imm : Word32}
    (hi : i = .callHelper imm ∨ i = .callBtf imm) : ExecEffect i s (s.callPlatform site table imm) := by
  obtain ⟨-, hf⟩ | ⟨h, -, ⟨-, hf⟩ | ⟨y, hy, hn⟩⟩ := s.callPlatform_cases site table imm
  · exact hf ▸ .fault _
  · exact hf ▸ .fault _
  · exact hn ▸ .helper imm site h y hi hy

end SharedOperations

section InstructionForms

variable {i : Instr} {s : State} {n : Nat} {dst src : Reg} {imm : Word32} {offset : BitVec 16}

theorem alu32K_effect {f : Word32 → Word32 → Word32} : ExecEffect i s (alu32K f dst imm s) :=
  withReg_effect fun _ => .wrote dst _ 1

theorem alu32X_effect {f : Word32 → Word32 → Word32} : ExecEffect i s (alu32X f dst src s) :=
  withReg_effect fun _ => withReg_effect fun _ => .wrote dst _ 1

theorem alu64K_effect {f : Word → Word → Word} : ExecEffect i s (alu64K f dst imm s) :=
  withReg_effect fun _ => .wrote dst _ 1

theorem alu64X_effect {f : Word → Word → Word} : ExecEffect i s (alu64X f dst src s) :=
  withReg_effect fun _ => withReg_effect fun _ => .wrote dst _ 1

theorem swapReg_effect {f : BitVec n → BitVec n} : ExecEffect i s (swapReg n f dst s) :=
  withReg_effect fun _ => .wrote dst _ 1

theorem jump64K_effect {c : Word → Word → Bool} : ExecEffect i s (jump64K c dst imm offset s) :=
  withReg_effect fun _ => branch_effect

theorem jump64X_effect {c : Word → Word → Bool} : ExecEffect i s (jump64X c dst src offset s) :=
  withReg_effect fun _ => withReg_effect fun _ => branch_effect

theorem jump32K_effect {c : Word32 → Word32 → Bool} : ExecEffect i s (jump32K c dst imm offset s) :=
  withReg_effect fun _ => branch_effect

theorem jump32X_effect {c : Word32 → Word32 → Bool} : ExecEffect i s (jump32X c dst src offset s) :=
  withReg_effect fun _ => withReg_effect fun _ => branch_effect

theorem loadReg_effect {ext : Word → Word} : ExecEffect i s (loadReg n ext dst src offset s) :=
  withReg_effect fun _ => withAccess_effect fun hok => .loaded _ n dst _ hok

theorem storeAt_effect {base v : Word} : ExecEffect i s (storeAt n base offset v s) :=
  withAccess_effect fun hok => .stored _ n v hok

theorem storeImm_effect : ExecEffect i s (storeImm n dst offset imm s) :=
  withReg_effect fun _ => storeAt_effect

theorem storeReg_effect : ExecEffect i s (storeReg n dst src offset s) :=
  withReg_effect fun _ => withReg_effect fun _ => storeAt_effect

theorem atomicOp_effect {f : Word → Word → Word} : ExecEffect i s (atomicOp n f dst src offset s) :=
  withReg_effect fun _ => withReg_effect fun _ => withAccess_effect fun hok => .atomic _ n _ hok

theorem atomicFetch_effect {f : Word → Word → Word} : ExecEffect i s (atomicFetch n f dst src offset s) :=
  withReg_effect fun _ => withReg_effect fun _ => withAccess_effect fun hok => .atomicFetched _ n _ src _ hok

theorem atomicCmpxchg_effect : ExecEffect i s (atomicCmpxchg n dst src offset s) :=
  withReg_effect fun _ => withReg_effect fun _ => withReg_effect fun _ =>
    withAccess_effect fun hok => .atomicFetched _ n _ 0 _ hok

theorem execCallLocal_effect : ExecEffect (.callLocal imm) s (execCallLocal imm s) := by
  unfold execCallLocal
  cases hfull : s.callStackFull
  · exact .call imm rfl hfull
  · exact .fault _

theorem execExit_effect : ExecEffect .exit s (execExit s) := by
  unfold execExit
  split
  next hcs => exact .exited rfl hcs
  next frame rest hcs => exact .ret frame rest rfl hcs

end InstructionForms

/-- All that executing an instruction can do: each arm of `exec` is one of the forms above. -/
theorem exec_effect (i : Instr) (s : State) : ExecEffect i s (exec i s) := by
  cases i with
  | add32K _ _ | sub32K _ _ | mul32K _ _ | div32K _ _ | sdiv32K _ _ | or32K _ _ | and32K _ _ | lsh32K _ _
  | rsh32K _ _ | mod32K _ _ | smod32K _ _ | xor32K _ _ | arsh32K _ _ =>
    exact alu32K_effect
  | add32X _ _ | sub32X _ _ | mul32X _ _ | div32X _ _ | sdiv32X _ _ | or32X _ _ | and32X _ _ | lsh32X _ _
  | rsh32X _ _ | mod32X _ _ | smod32X _ _ | xor32X _ _ | arsh32X _ _ =>
    exact alu32X_effect
  | neg32 _ | neg64 _ | mov32X _ _ | movsx32_8 _ _ | movsx32_16 _ _ | mov64X _ _ | movsx64_8 _ _
  | movsx64_16 _ _ | movsx64_32 _ _ =>
    exact withReg_effect fun _ => .wrote _ _ 1
  | mov32K _ _ | mov64K _ _ => exact .wrote _ _ 1
  | add64K _ _ | sub64K _ _ | mul64K _ _ | div64K _ _ | sdiv64K _ _ | or64K _ _ | and64K _ _ | lsh64K _ _
  | rsh64K _ _ | mod64K _ _ | smod64K _ _ | xor64K _ _ | arsh64K _ _ =>
    exact alu64K_effect
  | add64X _ _ | sub64X _ _ | mul64X _ _ | div64X _ _ | sdiv64X _ _ | or64X _ _ | and64X _ _ | lsh64X _ _
  | rsh64X _ _ | mod64X _ _ | smod64X _ _ | xor64X _ _ | arsh64X _ _ =>
    exact alu64X_effect
  | le16 _ | le32 _ | le64 _ | be16 _ | be32 _ | be64 _ | bswap16 _ | bswap32 _ | bswap64 _ =>
    exact swapReg_effect
  | ja _ | ja32 _ => exact .goto _
  | jeq64K _ _ _ | jgt64K _ _ _ | jge64K _ _ _ | jset64K _ _ _ | jne64K _ _ _ | jsgt64K _ _ _ | jsge64K _ _ _
  | jlt64K _ _ _ | jle64K _ _ _ | jslt64K _ _ _ | jsle64K _ _ _ =>
    exact jump64K_effect
  | jeq64X _ _ _ | jgt64X _ _ _ | jge64X _ _ _ | jset64X _ _ _ | jne64X _ _ _ | jsgt64X _ _ _ | jsge64X _ _ _
  | jlt64X _ _ _ | jle64X _ _ _ | jslt64X _ _ _ | jsle64X _ _ _ =>
    exact jump64X_effect
  | jeq32K _ _ _ | jgt32K _ _ _ | jge32K _ _ _ | jset32K _ _ _ | jne32K _ _ _ | jsgt32K _ _ _ | jsge32K _ _ _
  | jlt32K _ _ _ | jle32K _ _ _ | jslt32K _ _ _ | jsle32K _ _ _ =>
    exact jump32K_effect
  | jeq32X _ _ _ | jgt32X _ _ _ | jge32X _ _ _ | jset32X _ _ _ | jne32X _ _ _ | jsgt32X _ _ _ | jsge32X _ _ _
  | jlt32X _ _ _ | jle32X _ _ _ | jslt32X _ _ _ | jsle32X _ _ _ =>
    exact jump32X_effect
  | callHelper _ => exact callPlatform_effect (.inl rfl)
  | callBtf _ => exact callPlatform_effect (.inr rfl)
  | callLocal _ => exact execCallLocal_effect
  | exit => exact execExit_effect
  | ldxw _ _ _ | ldxh _ _ _ | ldxb _ _ _ | ldxdw _ _ _ | ldxsw _ _ _ | ldxsh _ _ _ | ldxsb _ _ _ =>
    exact loadReg_effect
  | stw _ _ _ | sth _ _ _ | stb _ _ _ | stdw _ _ _ => exact storeImm_effect
  | stxw _ _ _ | stxh _ _ _ | stxb _ _ _ | stxdw _ _ _ => exact storeReg_effect
  | atomicAdd32 _ _ _ | atomicOr32 _ _ _ | atomicAnd32 _ _ _ | atomicXor32 _ _ _ | atomicAdd64 _ _ _
  | atomicOr64 _ _ _ | atomicAnd64 _ _ _ | atomicXor64 _ _ _ =>
    exact atomicOp_effect
  | atomicFetchAdd32 _ _ _ | atomicFetchOr32 _ _ _ | atomicFetchAnd32 _ _ _ | atomicFetchXor32 _ _ _
  | atomicXchg32 _ _ _ | atomicFetchAdd64 _ _ _ | atomicFetchOr64 _ _ _ | atomicFetchAnd64 _ _ _
  | atomicFetchXor64 _ _ _ | atomicXchg64 _ _ _ =>
    exact atomicFetch_effect
  | atomicCmpxchg32 _ _ _ | atomicCmpxchg64 _ _ _ => exact atomicCmpxchg_effect
  | lddw _ _ _ => exact .wrote _ _ 2
  | ldMapFd _ _ | ldVarAddr _ _ | ldCodeAddr _ _ | ldMapIdx _ _ | ldMapValFd _ _ _ | ldMapValIdx _ _ _ =>
    exact loadAddress_effect
  | imm64SecondSlot _ | ldabsw _ | ldabsh _ | ldabsb _ | ldindw _ _ | ldindh _ _ | ldindb _ _ =>
    exact .fault _

theorem exec_isNext (i : Instr) (s : State) : ∃ t, exec i s = .next t := (exec_effect i s).isNext

/-- Steps 2 to 4 of rule R420: what is fetched is executed, and a fault of fetch or decode is taken. -/
theorem State.runInstr_cases (s : State) :
    (∃ i, s.fetch = .ok i ∧ s.runInstr = exec i s) ∨ ∃ t, s.fetch = .error t ∧ s.runInstr = .next (s.raise t) := by
  unfold State.runInstr
  cases s.fetch with
  | ok i => exact .inl ⟨i, rfl, rfl⟩
  | error t => exact .inr ⟨t, rfl, rfl⟩

theorem State.runInstr_isNext (s : State) : ∃ t, s.runInstr = .next t := by
  obtain ⟨i, -, hi⟩ | ⟨t, -, ht⟩ := s.runInstr_cases
  · exact hi ▸ exec_isNext i s
  · exact ⟨_, ht⟩

end Sys2Proof.Machine
end

section
/-! The three answers of a step (rule R420), one equation for each, and the refusal of a configuration. -/

namespace Sys2Proof.Machine

open Sys2Proof.Spec

/-- The executable check of `GROUPS` is the condition of rules R2, R7 and R350. -/
theorem admissible_iff (groups : List Group) : admissible groups = true ↔ AdmissibleGroups groups := by
  simp only [admissible, AdmissibleGroups, Bool.and_eq_true, Bool.or_eq_true, decide_eq_true_eq, and_assoc,
    Decidable.imp_iff_not_or]

theorem step_of_not_running (s : State) (h : s.status ≠ .running) : step s = .fault (.halted s.status) := by
  unfold step
  cases hs : s.status with
  | running => exact absurd hs h
  | exited | faulted t => rfl

theorem step_of_inadmissible (s : State) (hr : s.status = .running) (hg : ¬ AdmissibleGroups s.params.groups) :
    step s = .refused .inadmissibleConfiguration := by
  rw [← admissible_iff] at hg
  simp only [step, hr, if_neg hg]

theorem step_of_admissible (s : State) (hr : s.status = .running) (hg : AdmissibleGroups s.params.groups) :
    step s = s.environmentActs.runInstr := by
  rw [← admissible_iff] at hg
  simp only [step, hr, if_pos hg]

/-- Settles O14: of the three answers of a step only the one to inadmissible `GROUPS` is a refusal, since a stopped
machine answers a host-level fault and `runInstr` always answers a next state. -/
theorem inadmissibleGroupsAreRefused : Obligations.InadmissibleGroupsAreRefused := by
  intro s
  constructor
  · rintro ⟨r, hstep⟩
    by_cases hr : s.status = .running
    · refine ⟨hr, fun hg => ?_⟩
      obtain ⟨t, ht⟩ := s.environmentActs.runInstr_isNext
      rw [step_of_admissible s hr hg, ht] at hstep
      cases hstep
    · rw [step_of_not_running s hr] at hstep
      cases hstep
  · rintro ⟨hr, hg⟩
    exact ⟨_, step_of_inadmissible s hr hg⟩

end Sys2Proof.Machine
end

section
/-! What a step can do (rule R420), in one inversion, and what executing an instruction leaves of the status, of the
parameters, of the call stack and of the form of memory: one lemma for each part of the state, over the shapes of
`ExecEffect`. -/

namespace Sys2Proof.Machine

variable {i : Instr} {s t : State}

/-- Fetch and decode read the parameters and the pc, which the environment does not change. -/
@[simp] theorem State.environmentActs_fetch (s : State) : s.environmentActs.fetch = s.fetch := by
  simp only [State.fetch, State.environmentActs_params, State.environmentActs_pc]

/-- A step that answers a next state starts Running, and after the environment's turn it executes what is fetched or
takes the fault of the fetch (rule R420). -/
theorem step_next_cases (h : step s = .next t) : s.status = .running ∧
    ((∃ i, s.fetch = .ok i ∧ exec i s.environmentActs = .next t) ∨
      ∃ tr, s.fetch = .error tr ∧ t = s.environmentActs.raise tr) := by
  by_cases hr : s.status = .running
  · by_cases hg : Spec.AdmissibleGroups s.params.groups
    · rw [step_of_admissible s hr hg] at h
      obtain ⟨i, hi, hx⟩ | ⟨tr, htr, hx⟩ := s.environmentActs.runInstr_cases
      · exact ⟨hr, .inl ⟨i, s.environmentActs_fetch ▸ hi, hx ▸ h⟩⟩
      · rw [hx] at h
        cases h
        exact ⟨hr, .inr ⟨tr, s.environmentActs_fetch ▸ htr, rfl⟩⟩
    · rw [step_of_inadmissible s hr hg] at h
      cases h
  · rw [step_of_not_running s hr] at h
    cases h

theorem exec_next_effect (h : exec i s = .next t) : ExecEffect i s (.next t) := h ▸ exec_effect i s

/-- The status after an instruction: as it was, unless the instruction traps or is the EXIT that ends the run. -/
theorem exec_status_cases (h : exec i s = .next t) : t.status = s.status ∨ (∃ tr, t = s.raise tr) ∨
    i = .exit ∧ s.cs = [] ∧ t = { s with status := .exited } := by
  cases exec_next_effect h with
  | fault tr => exact .inr (.inl ⟨tr, rfl⟩)
  | exited isExit empty => exact .inr (.inr ⟨isExit, empty, rfl⟩)
  | goto | wrote | loaded | stored | atomic | atomicFetched | helper | call | ret => exact .inl rfl

theorem exec_params (h : exec i s = .next t) : t.params = s.params := by
  cases exec_next_effect h <;> rfl

/-- The call stack after an instruction: as it was, but for the frame a CALL_LOCAL with room pushes and the one an EXIT
pops (rules R252, R254). -/
theorem exec_cs_cases (h : exec i s = .next t) : t.cs = s.cs ∨
    (∃ imm, i = .callLocal imm ∧ s.callStackFull = false ∧
      t.cs = { ret := s.pc + 1, saved := s.params.callAbi.saved.map fun r => (r, s.regs[r]) } :: s.cs) ∨
    ∃ frame, s.cs = frame :: t.cs := by
  cases exec_next_effect h with
  | call imm isCall room => exact .inr (.inl ⟨imm, isCall, room, rfl⟩)
  | ret frame _ _ frames => exact .inr (.inr ⟨frame, frames⟩)
  | fault | goto | wrote | loaded | stored | atomic | atomicFetched | helper | exited => exact .inl rfl

/-- Every instruction keeps the canonical form of memory. -/
theorem exec_mem_wf (h : exec i s = .next t) (hm : s.mem.wf) : t.mem.wf := by
  cases exec_next_effect h with
  | fault | goto | wrote | call | ret | exited => exact hm
  | loaded ea n => exact s.wf_memRead ea n hm
  | stored ea n v => exact s.wf_memWrite ea n v hm
  | atomic ea n f => exact s.wf_atomicRMW ea n f hm
  | atomicFetched ea n f => exact s.wf_atomicRMW ea n f hm
  | helper _ site rel y _ related => exact HelperRel.wf_outcomes (s.siteOf site) rel s.platformState hm y related

/-- The environment's turn keeps the canonical form of memory. -/
theorem State.wf_environmentActs (s : State) (hm : s.mem.wf) : s.environmentActs.mem.wf := by
  cases h : s.turn with
  | none => rwa [s.environmentActs_noTurn h]
  | some u =>
    rw [s.environmentActs_turn u h]
    exact s.wf_environmentMem u hm

/-- The statements' state after the environment's turn is the model's. -/
theorem afterEnvironment_eq (s : State) : Spec.AfterEnvironment s = s.environmentActs := by
  unfold Spec.AfterEnvironment
  cases h : s.turn with
  | none => exact (s.environmentActs_noTurn h).symm
  | some u => exact (s.environmentActs_turn u h).symm

end Sys2Proof.Machine
end

section
/-! The slot after a one-slot instruction: where CALL_LOCAL returns to is an instruction boundary or just past the last
slot (rules R74, R252). -/

namespace Sys2Proof

theorem Fields.wideBoth_group {f : Fields} {next : Word32} {mk : Reg → Word32 → Word32 → Instr} {i : Instr}
    (hmk : ∀ d a b, (mk d a b).group = .base64) (h : f.wideBoth next mk = .ok i) : i.group = .base64 := by
  obtain ⟨-, hd⟩ := (fixed_ok _ _ _).1 h
  obtain ⟨d, -, rfl⟩ := (oneReg_ok _ _ _).1 hd
  exact hmk d f.imm next

theorem Fields.wideOne_group {f : Fields} {next : Word32} {mk : Reg → Word32 → Instr} {i : Instr}
    (hmk : ∀ d a, (mk d a).group = .base64) (h : f.wideOne next mk = .ok i) : i.group = .base64 := by
  obtain ⟨-, hd⟩ := (fixed_ok _ _ _).1 h
  split at hd
  · obtain ⟨d, -, rfl⟩ := (oneReg_ok _ _ _).1 hd
    exact hmk d f.imm
  · cases hd

theorem decodeWide_group {f : Fields} {next : Word32} {i : Instr} (h : decodeWide f next = .ok i) :
    i.group = .base64 := by
  unfold decodeWide at h
  split at h
  · exact Fields.wideBoth_group (fun _ _ _ => rfl) h
  · exact Fields.wideOne_group (fun _ _ => rfl) h
  · exact Fields.wideBoth_group (fun _ _ _ => rfl) h
  · exact Fields.wideOne_group (fun _ _ => rfl) h
  · exact Fields.wideOne_group (fun _ _ => rfl) h
  · exact Fields.wideOne_group (fun _ _ => rfl) h
  · exact Fields.wideBoth_group (fun _ _ _ => rfl) h
  · cases h

/-- Every instruction of opcode 0x18, the two-slot one, is of group base64. -/
theorem decodeFields_wide_group {f : Fields} {next : Option Fields} {i : Instr} (hop : f.opcode = 0x18)
    (h : decodeFields f next = .ok i) : i.group = .base64 := by
  unfold decodeFields at h
  rw [if_pos hop] at h
  split at h
  · cases h
  · split at h
    · exact decodeWide_group h
    · cases h

@[simp] theorem Slot.fields_opcode (e : Endian) (sl : Slot) : (sl.fields e).opcode = sl.b0 := by
  cases e <;> rfl

/-- What a program decodes to at a slot is decoded from that slot. -/
theorem decodeProgram_drop_ok {e : Endian} {program : List Slot} {n : Nat} {i : Instr}
    (h : decodeProgram e (program.drop n) = .ok i) :
    ∃ sl next, program[n]? = some sl ∧ decodeFields (sl.fields e) next = .ok i := by
  cases hd : program.drop n with
  | nil =>
    rw [hd] at h
    cases h
  | cons sl rest =>
    rw [hd] at h
    refine ⟨sl, _, ?_, h⟩
    rw [← List.head?_drop, hd, List.head?_cons]

namespace Machine

/-- What a fetch that answers an instruction has checked (steps 1 to 6 of rule R73). -/
theorem State.fetch_ok {s : State} {i : Instr} (h : s.fetch = .ok i) :
    Params.fetchable s.params s.pc = true ∧
      decodeProgram s.params.hostEndian (s.params.program.drop s.pc.toNat) = .ok i ∧
      i.group ∈ s.params.groups := by
  unfold State.fetch at h
  split at h
  next hf =>
    split at h
    next => cases h
    next j hd =>
      split at h
      next hg =>
        cases h
        exact ⟨hf, hd, hg⟩
      next => cases h
  next => cases h

theorem Params.fetchable_iff (p : Params) (pc : Int) :
    Params.fetchable p pc = true ↔ ∃ n : Nat, pc = n ∧ boundary p.program n = true := by
  simp only [Params.fetchable, Bool.and_eq_true, decide_eq_true_eq]
  constructor
  · rintro ⟨hpc, hb⟩
    exact ⟨pc.toNat, (Int.toNat_of_nonneg hpc).symm, hb⟩
  · rintro ⟨n, rfl, hb⟩
    exact ⟨Int.natCast_nonneg n, hb⟩

/-- The sweep of rule R74 passes over both slots of a wide instruction. -/
theorem boundary_wide {first : Slot} (second : Slot) (rest : List Slot) (n : Nat) (h : first.b0 = 0x18#8) :
    boundary (first :: second :: rest) (n + 2) = boundary rest n := if_pos h

/-- The sweep of rule R74 passes over the one slot of any other instruction. -/
theorem boundary_narrow {first : Slot} (rest : List Slot) (n : Nat) (h : first.b0 ≠ 0x18#8) :
    boundary (first :: rest) (n + 1) = boundary rest n :=
  (boundary.eq_def _ _).trans (if_neg h)

/-- The linear sweep of rule R74 goes from a one-slot instruction to the slot after it, if the program has one. -/
theorem boundary_succ (program : List Slot) (n : Nat) (sl : Slot) (hb : boundary program n = true)
    (hsl : program[n]? = some sl) (hop : sl.b0 ≠ 0x18#8) :
    boundary program (n + 1) = true ∨ n + 1 = program.length := by
  induction program, n using boundary.induct with
  | case1 => cases hb
  | case2 first rest =>
    cases hsl
    cases rest with
    | nil => exact .inr rfl
    | cons => exact .inl (boundary_narrow _ 0 hop)
  | case3 first n hwide => simp [boundary, hwide] at hb
  | case4 first hwide second rest => simp [boundary, hwide] at hb
  | case5 first hwide second rest n ih =>
    rw [boundary_wide second rest _ hwide] at hb ⊢
    simpa using ih hb hsl
  | case6 first rest n hnarrow ih =>
    rw [boundary_narrow rest _ hnarrow] at hb ⊢
    simpa using ih hb hsl

/-- After a fetched instruction of group base32, so of one slot, the next slot is one a return may go to. -/
theorem State.returnable_succ {s : State} {i : Instr} (h : s.fetch = .ok i) (hg : i.group = .base32) :
    Params.returnable s.params (s.pc + 1) := by
  obtain ⟨hf, hd, -⟩ := State.fetch_ok h
  obtain ⟨n, hn, hb⟩ := (Params.fetchable_iff _ _).1 hf
  obtain ⟨sl, next, hsl, hi⟩ := decodeProgram_drop_ok hd
  rw [hn, Int.toNat_natCast] at hsl
  have hop : sl.b0 ≠ 0x18#8 := by
    intro h18
    have h64 := decodeFields_wide_group ((Slot.fields_opcode _ sl).trans h18) hi
    rw [hg] at h64
    cases h64
  rw [hn]
  obtain hnext | hend := boundary_succ _ n sl hb hsl hop
  · exact .inl ((Params.fetchable_iff _ _).2 ⟨n + 1, rfl, hnext⟩)
  · exact .inr (by rw [← hend]; rfl)

end Machine

end Sys2Proof
end

section
/-! The invariant: what pushing and popping a frame do to it, and that every step keeps it. -/

namespace Sys2Proof.Machine

/-- The invariant reads memory, the call stack and the parameters alone. -/
theorem State.Inv.of_same {s t : State} (hi : s.Inv) (hm : t.mem.wf) (hp : t.params = s.params)
    (hcs : t.cs = s.cs) : t.Inv where
  memory := hm
  depth := by simpa only [hp, hcs] using hi.depth
  frames := by simpa only [hp, hcs] using hi.frames
  saved := by simpa only [hp, hcs] using hi.saved

/-- A frame may be pushed while the call stack is below `MAX_CALL_DEPTH`, if it returns to an instruction and holds the
registers `CALL_ABI` saves (rule R252). -/
theorem State.Inv.push {s t : State} (hi : s.Inv) (hm : t.mem.wf) (hp : t.params = s.params) {frame : Frame}
    (hcs : t.cs = frame :: s.cs) (room : s.callStackFull = false) (hret : Params.returnable s.params frame.ret)
    (hsaved : frame.saved.map (·.1) = s.params.callAbi.saved) : t.Inv where
  memory := hm
  depth := by
    intro d hd
    rw [hp] at hd
    have hlt : ¬ d ≤ s.cs.length := fun hle => by
      rw [s.callStackFull_iff.2 ⟨d, hd, hle⟩] at room
      cases room
    rw [hcs, List.length_cons]
    omega
  frames := by
    rw [hcs, hp]
    exact List.forall_mem_cons.2 ⟨hret, hi.frames⟩
  saved := by
    rw [hcs, hp]
    exact List.forall_mem_cons.2 ⟨hsaved, hi.saved⟩

/-- The top frame may be popped (rule R254). -/
theorem State.Inv.pop {s t : State} (hi : s.Inv) (hm : t.mem.wf) (hp : t.params = s.params) {frame : Frame}
    (hcs : s.cs = frame :: t.cs) : t.Inv where
  memory := hm
  depth := by
    intro d hd
    have hle := hi.depth d (hp ▸ hd)
    rw [hcs, List.length_cons] at hle
    omega
  frames f hf := hp ▸ hi.frames f (hcs ▸ List.mem_cons_of_mem _ hf)
  saved f hf := hp ▸ hi.saved f (hcs ▸ List.mem_cons_of_mem _ hf)

/-- Every instruction keeps the invariant, where the slot after a CALL_LOCAL is one a return may go to. -/
theorem exec_keeps_inv {i : Instr} {s t : State} (h : exec i s = .next t) (hi : s.Inv)
    (hret : ∀ imm, i = .callLocal imm → Params.returnable s.params (s.pc + 1)) : t.Inv := by
  have hm := exec_mem_wf h hi.memory
  have hp := exec_params h
  obtain hcs | ⟨imm, hcall, room, hcs⟩ | ⟨frame, hcs⟩ := exec_cs_cases h
  · exact hi.of_same hm hp hcs
  · exact hi.push hm hp hcs room (hret imm hcall) (by simp [Function.comp_def])
  · exact hi.pop hm hp hcs

theorem State.environmentActs_inv {s : State} (hi : s.Inv) : s.environmentActs.Inv :=
  hi.of_same (s.wf_environmentActs hi.memory) s.environmentActs_params s.environmentActs_cs

/-- Settles O20: the environment's turn, a fault of the fetch and every instruction keep the invariant; the frame that a
fetched CALL_LOCAL pushes returns to the slot after it, which ends a one-slot instruction. -/
theorem stepKeepsTheInvariant : Obligations.StepKeepsTheInvariant := by
  intro s t hi hstep
  have he := State.environmentActs_inv hi
  obtain ⟨-, ⟨i, hfetch, hx⟩ | ⟨tr, -, rfl⟩⟩ := step_next_cases hstep
  · refine exec_keeps_inv hx he ?_
    rintro imm rfl
    exact State.returnable_succ (s.environmentActs_fetch.trans hfetch) rfl
  · exact he.of_same he.memory rfl rfl

end Sys2Proof.Machine
end

section
/-! How a run stops, what it never changes, and what EXIT undoes of a call. -/

namespace Sys2Proof.Machine

/-- Settles O17: of all that an instruction can do to a Running status only the EXIT of an empty call stack ends the run
without a fault. -/
theorem onlyExitEndsARun : Obligations.OnlyExitEndsARun := by
  intro s t hstep hexited
  obtain ⟨hrun, ⟨i, hfetch, hx⟩ | ⟨tr, -, rfl⟩⟩ := step_next_cases hstep
  · obtain hsame | ⟨tr, rfl⟩ | ⟨rfl, hcs, rfl⟩ := exec_status_cases hx
    · rw [hsame, State.environmentActs_status, hrun] at hexited
      cases hexited
    · cases hexited
    · exact ⟨hfetch, s.environmentActs_cs ▸ hcs, by rw [afterEnvironment_eq]⟩
  · cases hexited

/-- Settles O18: no shape of an instruction's outcome changes the parameters, nor does the environment or a fault. -/
theorem parametersNeverChange : Obligations.ParametersNeverChange := by
  refine ⟨fun _ _ _ => exec_params, ?_⟩
  intro s t hstep
  obtain ⟨-, ⟨i, -, hx⟩ | ⟨tr, -, rfl⟩⟩ := step_next_cases hstep
  · exact (exec_params hx).trans s.environmentActs_params
  · exact s.environmentActs_params

/-- Settles O13: the machine's answer to a step that rule R30 leaves undefined. -/
theorem stoppedMachineHasNoStep : Obligations.StoppedMachineHasNoStep := step_of_not_running

/-- A CALL_LOCAL that leaves the machine Running has made the call (rule R252). -/
theorem exec_callLocal_running {s t : State} {imm : Word32} (h : exec (.callLocal imm) s = .next t)
    (hrun : t.status = .running) : t = s.call (jumpTarget s.pc imm) := by
  change execCallLocal imm s = .next t at h
  unfold execCallLocal at h
  split at h
  · cases h
    cases hrun
  · cases h
    rfl

/-- EXIT with a frame to return to (rule R254). -/
theorem exec_exit_of_frame {s : State} {frame : Frame} {rest : List Frame} (hcs : s.cs = frame :: rest) :
    exec .exit s = .next (s.ret frame rest) := by
  change execExit s = _
  simp only [execExit, hcs]

/-- Where `CALL_ABI` does nothing on return, a return only restores what the frame saved. -/
theorem State.ret_regs_of_onReturn_nil (s : State) (frame : Frame) (rest : List Frame)
    (h : s.params.callAbi.onReturn = []) :
    (s.ret frame rest).regs = frame.saved.foldl (fun regs p => regs.set p.1 p.2) s.regs := by
  simp only [State.ret, State.goto_regs, RegFile.effects, h, List.foldl_nil]

/-- Restoring what was saved of a list of registers gives those their old values and leaves the others alone. -/
theorem RegFile.restore_saved (old regs : RegFile) (saved : List Reg) (r : Reg) :
    ((saved.map fun q => (q, old[q])).foldl (fun regs p => regs.set p.1 p.2) regs)[r]
      = if r ∈ saved then old[r] else regs[r] := by
  induction saved generalizing regs with
  | nil => rfl
  | cons q saved ih =>
    rw [List.map_cons, List.foldl_cons, ih]
    by_cases hr : r ∈ saved
    · simp [hr]
    · by_cases hq : r = q
      · simp [hq]
      · have hne : q.val ≠ r.val := fun hv => hq (Fin.ext hv.symm)
        simp [hr, hq, hne]

/-- Settles O43: the frame that the call pushed is the one that EXIT pops, and it holds the registers that `CALL_ABI`
saved. -/
theorem exitReturnsToTheCaller : Obligations.ExitReturnsToTheCaller := by
  intro s t u w imm hcall htrun _ hparams hcs hexit
  obtain rfl := exec_callLocal_running hcall htrun
  rw [State.call_cs] at hcs
  rw [exec_exit_of_frame hcs] at hexit
  cases hexit
  refine ⟨rfl, rfl, rfl, fun hret r => ?_⟩
  rw [State.ret_regs_of_onReturn_nil _ _ _ (hparams ▸ hret)]
  exact RegFile.restore_saved s.regs u.regs s.params.callAbi.saved r

end Sys2Proof.Machine
end

section
/-! Memories compared byte by byte: what several writes in a row do to one byte, that equal writes keep two memories equal
where they were, and what the accesses of the machine read and write, torn or not (rules R42, R45, R47). -/

namespace Sys2Proof.Machine

/-! Writes in a row -/

theorem Memory.writeCells_cons (m : Memory) (c : Host.Cell) (cells : List Host.Cell) :
    m.writeCells (c :: cells) = (m.write c.1 c.2).writeCells cells := rfl

theorem Memory.writeCells_append (m : Memory) (cells more : List Host.Cell) :
    m.writeCells (cells ++ more) = (m.writeCells cells).writeCells more := List.foldl_append

/-- The two memories hold the same bytes at the addresses of a set. -/
def Memory.AgreeOn (P : Nat → Prop) (m m' : Memory) : Prop := ∀ a, P a → m'.read a = m.read a

section Agreement

variable {P : Nat → Prop} {m m' : Memory} {a n : Nat}

theorem Memory.AgreeOn.write (h : Memory.AgreeOn P m m') (a : Nat) (v : Byte) :
    Memory.AgreeOn P (m.write a v) (m'.write a v) := fun b hb => by
  rw [Memory.read_write, Memory.read_write, h b hb]

theorem Memory.AgreeOn.writeCells (h : Memory.AgreeOn P m m') (cells : List Host.Cell) :
    Memory.AgreeOn P (m.writeCells cells) (m'.writeCells cells) := by
  induction cells generalizing m m' with
  | nil => exact h
  | cons c cells ih => exact ih (h.write c.1 c.2)

/-- A store is byte writes that do not depend on memory. -/
theorem Memory.store_eq_writeCells (e : Endian) (m : Memory) (a n : Nat) (v : Word) :
    m.store e a n v = m.writeCells ((List.range n).map fun k => (a + k, byteOf v (bytePlace e n k))) := by
  simp only [Memory.store, Memory.writeCells, List.foldl_map]

theorem Memory.AgreeOn.store (h : Memory.AgreeOn P m m') (e : Endian) (a n : Nat) (v : Word) :
    Memory.AgreeOn P (m.store e a n v) (m'.store e a n v) := by
  simp only [Memory.store_eq_writeCells]
  exact h.writeCells _

theorem bytePlace_lt (e : Endian) {n k : Nat} (hk : k < n) : bytePlace e n k < n := by
  cases e <;> simp only [bytePlace] <;> omega

/-- A load sees only the bytes of its access (rule R42). -/
theorem Memory.AgreeOn.load_eq (h : Memory.AgreeOn P m m') (e : Endian) (hP : ∀ k, k < n → P (a + k)) :
    m'.load e a n = m.load e a n := by
  refine congrArg assemble (List.map_congr_left fun k hk => ?_)
  exact h _ (hP _ (bytePlace_lt e (List.mem_range.1 hk)))

/-! Torn accesses -/

/-- The reads of a torn access leave memory as the environment's writes do. -/
theorem Memory.tornLoad_memory (a : Nat) (order : List (Nat × List Host.Cell)) (m : Memory) :
    (Memory.tornLoad a order m).2 = m.writeCells (order.flatMap (·.2)) := by
  induction order generalizing m with
  | nil => rfl
  | cons o order ih =>
    rw [List.flatMap_cons, Memory.writeCells_append]
    exact ih _

/-- The reads of a torn access see only its bytes. -/
theorem Memory.AgreeOn.tornLoad_bytes_eq {order : List (Nat × List Host.Cell)} (h : Memory.AgreeOn P m m')
    (hP : ∀ o ∈ order, P (a + o.1)) : (Memory.tornLoad a order m').1 = (Memory.tornLoad a order m).1 := by
  induction order generalizing m m' with
  | nil => rfl
  | cons o order ih =>
    have hw := h.writeCells o.2
    have hread := hw _ (hP o (by simp))
    have hrest := ih hw fun o ho => hP o (by simp [ho])
    simp only [Memory.tornLoad, hread, hrest]

theorem Memory.AgreeOn.tornStore (h : Memory.AgreeOn P m m') (e : Endian) (a n : Nat) (v : Word)
    (order : List (Nat × List Host.Cell)) :
    Memory.AgreeOn P (Memory.tornStore e a n v order m) (Memory.tornStore e a n v order m') := by
  induction order generalizing m m' with
  | nil => exact h
  | cons o order ih => exact ih ((h.writeCells o.2).write _ _)

/-- A byte that is none of a torn store's own is left as the environment's writes leave it. -/
theorem Memory.read_tornStore_other {e : Endian} {v : Word} {b : Nat} {order : List (Nat × List Host.Cell)}
    (hm : m'.read b = m.read b) (hb : ∀ o ∈ order, b ≠ a + o.1) :
    (Memory.tornStore e a n v order m').read b = (m.writeCells (order.flatMap (·.2))).read b := by
  induction order generalizing m m' with
  | nil => exact hm
  | cons o order ih =>
    rw [List.flatMap_cons, Memory.writeCells_append]
    refine ih ?_ fun o ho => hb o (by simp [ho])
    have hagree : Memory.AgreeOn (· = b) m m' := fun _ h => h ▸ hm
    rw [Memory.read_write_other _ _ _ _ (hb o (by simp))]
    exact hagree.writeCells o.2 b rfl

end Agreement

/-! The order of a torn access, and the accesses of the machine -/

/-- Whoever gives the order of a torn access, it names each byte once (rule R45). -/
theorem State.tornOrder_perm (s : State) (n : Nat) : ((s.tornOrder n).map (·.1)).Perm (List.range n) := by
  have hascending : (((List.range n).map fun k => (k, ([] : List Host.Cell))).map (·.1)).Perm (List.range n) := by
    simp [Function.comp_def]
  unfold State.tornOrder
  split
  · split
    next hperm => exact List.isPerm_iff.1 hperm
    next => exact hascending
  · exact hascending

theorem State.lt_of_mem_tornOrder {s : State} {n : Nat} {o : Nat × List Host.Cell} (h : o ∈ s.tornOrder n) :
    o.1 < n :=
  List.mem_range.1 ((s.tornOrder_perm n).subset (List.mem_map_of_mem h))

/-- With no other agent nothing is written between the bytes of a torn access. -/
theorem State.tornOrder_cells_of_noTurn {s : State} (h : s.turn = none) (n : Nat) :
    (s.tornOrder n).flatMap (·.2) = [] := by
  simp [State.tornOrder, h]

/-- With no other agent a read changes no byte. -/
theorem State.memRead_memory_of_noTurn {s : State} (h : s.turn = none) (ea : Word) (n : Nat) :
    (s.memRead ea n).2 = s.mem := by
  obtain hsame | ⟨-, htorn⟩ := s.memRead_memory ea n
  · exact hsame
  · rw [htorn, Memory.tornLoad_memory, State.tornOrder_cells_of_noTurn h]
    rfl

/-- With no other agent a write changes no byte outside its access. -/
theorem State.read_memWrite_outside {s : State} (h : s.turn = none) {ea v : Word} {n b : Nat}
    (hb : b < ea.toNat ∨ ea.toNat + n ≤ b) : (s.memWrite ea n v).read b = s.mem.read b := by
  unfold State.memWrite
  split
  · rw [Memory.read_tornStore_other (m := s.mem) rfl, State.tornOrder_cells_of_noTurn h]
    · rfl
    · intro o ho
      have := State.lt_of_mem_tornOrder ho
      omega
  · exact Memory.read_store_outside _ _ _ _ _ _ hb

/-- An atomic access changes no byte outside it. -/
theorem State.read_atomicRMW_outside {s : State} {ea : Word} {n b : Nat} {f : Word → Word}
    (hb : b < ea.toNat ∨ ea.toNat + n ≤ b) : (s.atomicRMW ea n f).2.read b = s.mem.read b :=
  Memory.read_store_outside _ _ _ _ _ _ hb

end Sys2Proof.Machine
end

section
/-! No byte changes outside the accesses that `ACCESSIBLE` admits for writing (rules R44, R47, R405, R414). -/

namespace Sys2Proof.Machine

open Sys2Proof.Spec

/-- The bytes of an access that passes its checks are bytes that `ACCESSIBLE` admits for its kind. -/
theorem State.reaches_of_admitted {s : State} {ea : Word} {n : Nat} {kind : AccessKind} {kinds : List AccessKind}
    {b : Nat} (h : s.refuses ea n kind = none) (hk : kind ∈ kinds) (hlo : ea.toNat ≤ b) (hhi : b < ea.toNat + n) :
    Reaches s kinds b := by
  obtain ⟨-, hr⟩ | ⟨-, -, -, hr⟩ | ⟨-, -, -, hr⟩ | ⟨-, -, hadmits, -⟩ := s.refuses_cases ea n kind
  · rw [hr] at h; cases h
  · rw [hr] at h; cases h
  · rw [hr] at h; cases h
  · obtain ⟨g, hg, rfl, rfl, hfirst, hlast⟩ := (Params.admits_iff _ _ _ _).1 hadmits
    exact ⟨g, hg, hk, ea, hfirst, hlast, hlo, hhi⟩

/-- A byte that `ACCESSIBLE` does not reach lies outside every access that passes its checks. -/
theorem State.outside_of_not_reaches {s : State} {ea : Word} {n : Nat} {kind : AccessKind} {kinds : List AccessKind}
    {b : Nat} (hb : ¬ Reaches s kinds b) (h : s.refuses ea n kind = none) (hk : kind ∈ kinds) :
    b < ea.toNat ∨ ea.toNat + n ≤ b :=
  Decidable.byContradiction fun _ => hb (State.reaches_of_admitted h hk (by omega) (by omega))

/-- With no other agent an instruction that calls no helper changes only bytes that `ACCESSIBLE` admits for writing. -/
theorem exec_read_of_not_reaches {i : Instr} {s t : State} (h : exec i s = .next t) (hturn : s.turn = none)
    (hi : NoHelper i) {b : Nat} (hb : ¬ Reaches s [.write, .atomic] b) : t.mem.read b = s.mem.read b := by
  cases exec_next_effect h with
  | fault | goto | wrote | call | ret | exited => rfl
  | loaded ea n => exact congrArg (Memory.read · b) (State.memRead_memory_of_noTurn hturn ea n)
  | stored ea n v admitted =>
    exact State.read_memWrite_outside hturn (State.outside_of_not_reaches hb admitted (by simp))
  | atomic ea n f admitted | atomicFetched ea n f dst v admitted =>
    exact State.read_atomicRMW_outside (State.outside_of_not_reaches hb admitted (by simp))
  | helper imm _ _ _ isCall => exact (isCall.elim (hi imm).1 (hi imm).2).elim

theorem State.turn_of_alone {s : State} (h : s.params.environment = Environment.alone) : s.turn = none := by
  simp [State.turn, h, Environment.turn, Environment.alone]

/-- Settles O21: with no other agent the environment leaves the state alone, and every instruction that changes a byte
has its access admitted for writing. -/
theorem writesStayInsideAccessible : Obligations.WritesStayInsideAccessible := by
  intro s t halone hi hstep b hne
  have hturn := State.turn_of_alone halone
  obtain ⟨-, ⟨i, hfetch, hx⟩ | ⟨tr, -, rfl⟩⟩ := step_next_cases hstep
  · rw [s.environmentActs_noTurn hturn] at hx
    exact Classical.byContradiction fun hb => hne (exec_read_of_not_reaches hx hturn (hi i hfetch) hb)
  · rw [s.environmentActs_noTurn hturn] at hne
    exact (hne rfl).elim

end Sys2Proof.Machine
end

section
/-! Bytes that no access admitted for reading covers are not observed (rules R44, R450): every instruction but a helper
call, run on two memories that agree on the readable bytes, answers next states that differ at most in the others. -/

namespace Sys2Proof.Machine

open Sys2Proof.Spec

/-- Both outcomes are next states, equal but for bytes that cannot be read. -/
def SameOutcome (r r' : Result) : Prop := ∃ s' t', r = .next s' ∧ r' = .next t' ∧ SameVisible s' t'

/-- The two memories hold the same in every byte that the program may read in the state. -/
abbrev State.Readable (s : State) (m m' : Memory) : Prop := Memory.AgreeOn (Reaches s [.read, .atomic]) m m'

section SharedOperations

variable {s : State} {m : Memory}

theorem sameOutcome_next {s' : State} {m' : Memory} (h : s.Readable s'.mem m') (hp : s'.params = s.params) :
    SameOutcome (.next s') (.next (s'.setMem m')) := by
  refine ⟨s', _, rfl, rfl, rfl, fun a ha => h a ?_⟩
  simpa only [Reaches, hp] using ha

theorem sameOutcome_trap (h : s.Readable s.mem m) (tr : Trap) : SameOutcome (s.trap tr) ((s.setMem m).trap tr) :=
  sameOutcome_next (s' := s.raise tr) h rfl

theorem sameOutcome_withReg (h : s.Readable s.mem m) {r : Reg} {k k' : Word → Result}
    (hk : ∀ v, SameOutcome (k v) (k' v)) : SameOutcome (s.withReg r k) ((s.setMem m).withReg r k') := by
  cases hr : s.reg r with
  | some v =>
    rw [s.withReg_value r k v hr, (s.setMem m).withReg_value r k' v hr]
    exact hk v
  | none =>
    rw [s.withReg_noValue r k hr, (s.setMem m).withReg_noValue r k' hr]
    exact sameOutcome_trap h _

/-- The checks of an access do not look at memory. -/
theorem sameOutcome_withAccess (h : s.Readable s.mem m) {ea : Word} {n : Nat} {kind : AccessKind} {k k' : Result}
    (hk : s.refuses ea n kind = none → SameOutcome k k') :
    SameOutcome (s.withAccess ea n kind k) ((s.setMem m).withAccess ea n kind k') := by
  cases hr : s.refuses ea n kind with
  | none =>
    rw [s.withAccess_admitted ea n kind k hr, (s.setMem m).withAccess_admitted ea n kind k' hr]
    exact hk hr
  | some reason =>
    rw [s.withAccess_refused ea n kind k reason hr, (s.setMem m).withAccess_refused ea n kind k' reason hr]
    exact sameOutcome_trap h _

theorem sameOutcome_retire (h : s.Readable s.mem m) {dst : Reg} {v : Word} :
    SameOutcome (s.retire dst v) ((s.setMem m).retire dst v) :=
  sameOutcome_next (s' := (s.setReg dst v).advance 1) h rfl

theorem sameOutcome_goto (h : s.Readable s.mem m) {t : Int} :
    SameOutcome (.next (s.goto t)) (.next ((s.setMem m).goto t)) :=
  sameOutcome_next (s' := s.goto t) h rfl

theorem sameOutcome_branch (h : s.Readable s.mem m) {taken : Bool} {offset : BitVec 16} :
    SameOutcome (s.branch taken offset) ((s.setMem m).branch taken offset) := by
  cases taken <;> exact sameOutcome_goto h

theorem sameOutcome_loadAddress (h : s.Readable s.mem m) {dst : Reg} {imm : Word32} {what : PlatformReason}
    {v : Option Word} : SameOutcome (s.loadAddress dst imm what v) ((s.setMem m).loadAddress dst imm what v) := by
  cases v with
  | none => exact sameOutcome_trap h _
  | some a => exact sameOutcome_next (s' := (s.setReg dst a).advance 2) h rfl

/-- With `CALL_ABI = bare` a local call sees nothing of memory (rule R252). -/
theorem sameOutcome_callLocal (h : s.Readable s.mem m) (hbare : s.params.callAbi = CallAbi.bare) (imm : Word32) :
    SameOutcome (execCallLocal imm s) (execCallLocal imm (s.setMem m)) := by
  have hfull : (s.setMem m).callStackFull = s.callStackFull := rfl
  unfold execCallLocal
  rw [hfull]
  split
  · exact sameOutcome_trap h _
  · have hcall : (s.setMem m).call (jumpTarget s.pc imm) = (s.call (jumpTarget s.pc imm)).setMem m := by
      simp [State.call, State.setMem, State.goto, RegFile.effects, hbare, CallAbi.bare]
    rw [State.setMem_pc, hcall]
    exact sameOutcome_next h rfl

/-- With `CALL_ABI = bare` a return sees nothing of memory (rule R254). -/
theorem sameOutcome_exit (h : s.Readable s.mem m) (hbare : s.params.callAbi = CallAbi.bare) :
    SameOutcome (execExit s) (execExit (s.setMem m)) := by
  unfold execExit
  rw [State.setMem_cs]
  split
  · exact sameOutcome_next (s' := { s with status := .exited }) h rfl
  next frame rest _ =>
    have hret : (s.setMem m).ret frame rest = (s.ret frame rest).setMem m := by
      simp [State.ret, State.setMem, State.goto, RegFile.effects, hbare, CallAbi.bare]
    rw [hret]
    exact sameOutcome_next h rfl

end SharedOperations

section Accesses

variable {s : State} {m : Memory} {ea : Word} {n : Nat}

/-- The bytes of an access admitted for reading are read alike (rules R42, R47). -/
theorem load_eq_of_readable (h : s.Readable s.mem m) {kind : AccessKind} (hok : s.refuses ea n kind = none)
    (hk : kind ∈ [AccessKind.read, .atomic]) :
    m.load s.params.hostEndian ea.toNat n = s.mem.load s.params.hostEndian ea.toNat n :=
  h.load_eq _ fun _ hlt => State.reaches_of_admitted hok hk (Nat.le_add_right _ _) (Nat.add_lt_add_left hlt _)

/-- An admitted read gives one value on both memories, torn or not, and leaves the readable bytes equal (rule R45). -/
theorem memRead_of_readable (h : s.Readable s.mem m) (hok : s.refuses ea n .read = none) :
    ((s.setMem m).memRead ea n).1 = (s.memRead ea n).1 ∧
      s.Readable (s.memRead ea n).2 ((s.setMem m).memRead ea n).2 := by
  have horder : (s.setMem m).tornOrder n = s.tornOrder n := rfl
  have hbytes := h.tornLoad_bytes_eq (a := ea.toNat) (order := s.tornOrder n) fun o ho =>
    State.reaches_of_admitted hok (by simp) (Nat.le_add_right _ _)
      (Nat.add_lt_add_left (State.lt_of_mem_tornOrder ho) _)
  unfold State.memRead
  split
  · simp only [horder, State.setMem_mem, State.setMem_params, hbytes, Memory.tornLoad_memory, true_and]
    exact h.writeCells _
  · exact ⟨load_eq_of_readable h hok (by simp), h⟩

theorem memWrite_of_readable (h : s.Readable s.mem m) (v : Word) :
    s.Readable (s.memWrite ea n v) ((s.setMem m).memWrite ea n v) := by
  unfold State.memWrite
  split
  · exact h.tornStore _ _ _ _ _
  · exact h.store _ _ _ _

theorem atomicRMW_of_readable (h : s.Readable s.mem m) (hok : s.refuses ea n .atomic = none) (f : Word → Word) :
    ((s.setMem m).atomicRMW ea n f).1 = (s.atomicRMW ea n f).1 ∧
      s.Readable (s.atomicRMW ea n f).2 ((s.setMem m).atomicRMW ea n f).2 := by
  have hold := load_eq_of_readable h hok (by simp)
  refine ⟨hold, ?_⟩
  simp only [State.atomicRMW, State.setMem_mem, State.setMem_params, hold]
  exact h.store _ _ _ _

variable {dst src : Reg} {offset : BitVec 16}

theorem sameOutcome_loadReg (h : s.Readable s.mem m) {ext : Word → Word} :
    SameOutcome (loadReg n ext dst src offset s) (loadReg n ext dst src offset (s.setMem m)) := by
  refine sameOutcome_withReg h fun base => sameOutcome_withAccess h fun hok => ?_
  obtain ⟨hv, hm⟩ := memRead_of_readable h hok
  simp only [hv]
  exact sameOutcome_next (s' := ((s.setMem _).setReg dst _).advance 1) hm rfl

theorem sameOutcome_storeAt (h : s.Readable s.mem m) {base v : Word} :
    SameOutcome (storeAt n base offset v s) (storeAt n base offset v (s.setMem m)) :=
  sameOutcome_withAccess h fun _ =>
    sameOutcome_next (s' := (s.setMem _).advance 1) (memWrite_of_readable h v) rfl

theorem sameOutcome_atomicOp (h : s.Readable s.mem m) {f : Word → Word → Word} :
    SameOutcome (atomicOp n f dst src offset s) (atomicOp n f dst src offset (s.setMem m)) :=
  sameOutcome_withReg h fun _ => sameOutcome_withReg h fun v => sameOutcome_withAccess h fun hok =>
    sameOutcome_next (s' := (s.setMem _).advance 1) (atomicRMW_of_readable h hok (f · v)).2 rfl

/-- The end of an atomic that writes the old value to a register. -/
theorem sameOutcome_fetched (h : s.Readable s.mem m) (hok : s.refuses ea n .atomic = none) (f : Word → Word) :
    SameOutcome ((s.setMem (s.atomicRMW ea n f).2).retire dst (s.atomicRMW ea n f).1)
      (((s.setMem m).setMem ((s.setMem m).atomicRMW ea n f).2).retire dst ((s.setMem m).atomicRMW ea n f).1) := by
  obtain ⟨hv, hm⟩ := atomicRMW_of_readable h hok f
  rw [hv]
  exact sameOutcome_next (s' := ((s.setMem _).setReg dst _).advance 1) hm rfl

theorem sameOutcome_atomicFetch (h : s.Readable s.mem m) {f : Word → Word → Word} :
    SameOutcome (atomicFetch n f dst src offset s) (atomicFetch n f dst src offset (s.setMem m)) :=
  sameOutcome_withReg h fun _ => sameOutcome_withReg h fun _ => sameOutcome_withAccess h fun hok =>
    sameOutcome_fetched h hok _

theorem sameOutcome_atomicCmpxchg (h : s.Readable s.mem m) :
    SameOutcome (atomicCmpxchg n dst src offset s) (atomicCmpxchg n dst src offset (s.setMem m)) :=
  sameOutcome_withReg h fun _ => sameOutcome_withReg h fun _ => sameOutcome_withReg h fun _ =>
    sameOutcome_withAccess h fun hok => sameOutcome_fetched h hok _

end Accesses

/-- Every instruction but a helper call does the same on two memories that agree on the readable bytes. -/
theorem exec_sameOutcome {i : Instr} {s : State} {m : Memory} (hi : NoHelper i)
    (hbare : s.params.callAbi = CallAbi.bare) (h : s.Readable s.mem m) :
    SameOutcome (exec i s) (exec i (s.setMem m)) := by
  cases i with
  | add32K _ _ | sub32K _ _ | mul32K _ _ | div32K _ _ | sdiv32K _ _ | or32K _ _ | and32K _ _ | lsh32K _ _
  | rsh32K _ _ | mod32K _ _ | smod32K _ _ | xor32K _ _ | arsh32K _ _ | add64K _ _ | sub64K _ _ | mul64K _ _
  | div64K _ _ | sdiv64K _ _ | or64K _ _ | and64K _ _ | lsh64K _ _ | rsh64K _ _ | mod64K _ _ | smod64K _ _
  | xor64K _ _ | arsh64K _ _ | neg32 _ | neg64 _ | mov32X _ _ | movsx32_8 _ _ | movsx32_16 _ _ | mov64X _ _
  | movsx64_8 _ _ | movsx64_16 _ _ | movsx64_32 _ _ | le16 _ | le32 _ | le64 _ | be16 _ | be32 _ | be64 _
  | bswap16 _ | bswap32 _ | bswap64 _ =>
    exact sameOutcome_withReg h fun _ => sameOutcome_retire h
  | add32X _ _ | sub32X _ _ | mul32X _ _ | div32X _ _ | sdiv32X _ _ | or32X _ _ | and32X _ _ | lsh32X _ _
  | rsh32X _ _ | mod32X _ _ | smod32X _ _ | xor32X _ _ | arsh32X _ _ | add64X _ _ | sub64X _ _ | mul64X _ _
  | div64X _ _ | sdiv64X _ _ | or64X _ _ | and64X _ _ | lsh64X _ _ | rsh64X _ _ | mod64X _ _ | smod64X _ _
  | xor64X _ _ | arsh64X _ _ =>
    exact sameOutcome_withReg h fun _ => sameOutcome_withReg h fun _ => sameOutcome_retire h
  | mov32K _ _ | mov64K _ _ => exact sameOutcome_retire h
  | ja _ | ja32 _ => exact sameOutcome_goto h
  | jeq64K _ _ _ | jgt64K _ _ _ | jge64K _ _ _ | jset64K _ _ _ | jne64K _ _ _ | jsgt64K _ _ _ | jsge64K _ _ _
  | jlt64K _ _ _ | jle64K _ _ _ | jslt64K _ _ _ | jsle64K _ _ _ | jeq32K _ _ _ | jgt32K _ _ _ | jge32K _ _ _
  | jset32K _ _ _ | jne32K _ _ _ | jsgt32K _ _ _ | jsge32K _ _ _ | jlt32K _ _ _ | jle32K _ _ _ | jslt32K _ _ _
  | jsle32K _ _ _ =>
    exact sameOutcome_withReg h fun _ => sameOutcome_branch h
  | jeq64X _ _ _ | jgt64X _ _ _ | jge64X _ _ _ | jset64X _ _ _ | jne64X _ _ _ | jsgt64X _ _ _ | jsge64X _ _ _
  | jlt64X _ _ _ | jle64X _ _ _ | jslt64X _ _ _ | jsle64X _ _ _ | jeq32X _ _ _ | jgt32X _ _ _ | jge32X _ _ _
  | jset32X _ _ _ | jne32X _ _ _ | jsgt32X _ _ _ | jsge32X _ _ _ | jlt32X _ _ _ | jle32X _ _ _ | jslt32X _ _ _
  | jsle32X _ _ _ =>
    exact sameOutcome_withReg h fun _ => sameOutcome_withReg h fun _ => sameOutcome_branch h
  | callHelper imm => exact ((hi imm).1 rfl).elim
  | callBtf imm => exact ((hi imm).2 rfl).elim
  | callLocal imm => exact sameOutcome_callLocal h hbare imm
  | exit => exact sameOutcome_exit h hbare
  | ldxw _ _ _ | ldxh _ _ _ | ldxb _ _ _ | ldxdw _ _ _ | ldxsw _ _ _ | ldxsh _ _ _ | ldxsb _ _ _ =>
    exact sameOutcome_loadReg h
  | stw _ _ _ | sth _ _ _ | stb _ _ _ | stdw _ _ _ =>
    exact sameOutcome_withReg h fun _ => sameOutcome_storeAt h
  | stxw _ _ _ | stxh _ _ _ | stxb _ _ _ | stxdw _ _ _ =>
    exact sameOutcome_withReg h fun _ => sameOutcome_withReg h fun _ => sameOutcome_storeAt h
  | atomicAdd32 _ _ _ | atomicOr32 _ _ _ | atomicAnd32 _ _ _ | atomicXor32 _ _ _ | atomicAdd64 _ _ _
  | atomicOr64 _ _ _ | atomicAnd64 _ _ _ | atomicXor64 _ _ _ =>
    exact sameOutcome_atomicOp h
  | atomicFetchAdd32 _ _ _ | atomicFetchOr32 _ _ _ | atomicFetchAnd32 _ _ _ | atomicFetchXor32 _ _ _
  | atomicXchg32 _ _ _ | atomicFetchAdd64 _ _ _ | atomicFetchOr64 _ _ _ | atomicFetchAnd64 _ _ _
  | atomicFetchXor64 _ _ _ | atomicXchg64 _ _ _ =>
    exact sameOutcome_atomicFetch h
  | atomicCmpxchg32 _ _ _ | atomicCmpxchg64 _ _ _ => exact sameOutcome_atomicCmpxchg h
  | lddw dst imm nextImm => exact sameOutcome_next (s' := (s.setReg dst (nextImm ++ imm)).advance 2) h rfl
  | ldMapFd _ _ | ldVarAddr _ _ | ldCodeAddr _ _ | ldMapIdx _ _ | ldMapValFd _ _ _ | ldMapValIdx _ _ _ =>
    exact sameOutcome_loadAddress h
  | imm64SecondSlot _ | ldabsw _ | ldabsh _ | ldabsb _ | ldindw _ _ | ldindh _ _ | ldindb _ _ =>
    exact sameOutcome_trap h _

/-- Settles O22: the second state is the first with another memory that agrees on the readable bytes, and no instruction
tells the two apart. -/
theorem unreadableBytesAreNotObserved : Obligations.UnreadableBytesAreNotObserved := by
  intro i s t s' hi hbare hvisible hexec
  obtain ⟨hrest, hreadable⟩ := hvisible
  have ht : t = s.setMem t.mem := hrest
  obtain ⟨s₁, t', hs, hexec', hsame⟩ := exec_sameOutcome hi hbare hreadable
  rw [hexec] at hs
  cases hs
  exact ⟨t', ht ▸ hexec', hsame⟩

end Sys2Proof.Machine
end

section
/-! Values in memory: the bytes of a value put together, the number they stand for, and a load after a store (rules R40,
R42). -/

namespace Sys2Proof.Machine

open Sys2Proof.Spec

/-! The bytes of a value -/

/-- The statements' place of a byte is the model's. -/
@[simp] theorem place_eq_bytePlace (e : Endian) (n k : Nat) : place e n k = bytePlace e n k := by
  cases e <;> rfl

@[simp] theorem bytePlace_bytePlace (e : Endian) {n k : Nat} (hk : k < n) :
    bytePlace e n (bytePlace e n k) = k := by
  cases e <;> simp only [bytePlace]
  omega

/-- Either byte order goes through each byte of a value once. -/
theorem map_bytePlace_perm (e : Endian) (n : Nat) : ((List.range n).map (bytePlace e n)).Perm (List.range n) := by
  cases e with
  | little => exact .of_eq (List.map_id _)
  | big =>
    have hreverse : (List.range n).map (bytePlace .big n) = (List.range n).reverse := by
      simp [List.range_eq_range', List.reverse_range', bytePlace]
    rw [hreverse]
    exact List.reverse_perm _

theorem toNat_assemble_lt (bytes : List Byte) : (assemble bytes).toNat < 2 ^ (8 * bytes.length) := by
  induction bytes with
  | nil => simp [assemble]
  | cons b rest ih =>
    have hb : b.toNat < 2 ^ (8 * (rest.length + 1)) :=
      Nat.lt_of_lt_of_le b.isLt (Nat.pow_le_pow_right (by decide) (by omega))
    have hrest : (assemble rest).toNat * 2 ^ 8 < 2 ^ (8 * (rest.length + 1)) := by
      rw [Nat.mul_add, Nat.pow_add]
      exact Nat.mul_lt_mul_of_pos_right ih (by decide)
    simp only [assemble, BitVec.toNat_or, BitVec.toNat_setWidth, BitVec.toNat_shiftLeft, Nat.shiftLeft_eq,
      List.length_cons]
    exact Nat.or_lt_two_pow (Nat.lt_of_le_of_lt (Nat.mod_le _ _) hb) (Nat.lt_of_le_of_lt (Nat.mod_le _ _) hrest)

/-- One more byte below the others, where all of them fit a value. -/
theorem toNat_assemble_cons (b : Byte) (rest : List Byte) (hlen : rest.length ≤ 7) :
    (assemble (b :: rest)).toNat = b.toNat + 256 * (assemble rest).toNat := by
  have hrest : (assemble rest).toNat < 2 ^ 56 :=
    Nat.lt_of_lt_of_le (toNat_assemble_lt rest) (Nat.pow_le_pow_right (by decide) (by omega))
  have hb := b.isLt
  have hor := Nat.two_pow_add_eq_or_of_lt hb (assemble rest).toNat
  rw [Nat.or_comm] at hor
  simp only [assemble, BitVec.toNat_or, BitVec.toNat_setWidth, BitVec.toNat_shiftLeft, Nat.shiftLeft_eq]
  rw [Nat.mod_eq_of_lt (by omega), Nat.mod_eq_of_lt (by omega), Nat.mul_comm _ (2 ^ 8), ← hor]
  omega

theorem sum_map_mul (c : Nat) (f : Nat → Nat) (l : List Nat) : (l.map fun k => c * f k).sum = c * (l.map f).sum := by
  induction l with
  | nil => rfl
  | cons k l ih => simp only [List.map_cons, List.sum_cons, ih, Nat.mul_add]

/-- The number that some bytes stand for, least significant first. -/
theorem toNat_assemble_range (f : Nat → Byte) {n : Nat} (hn : n ≤ 8) :
    (assemble ((List.range n).map f)).toNat = ((List.range n).map fun k => (f k).toNat * 256 ^ k).sum := by
  induction n generalizing f with
  | zero => rfl
  | succ n ih =>
    have htail := ih (fun k => f (k + 1)) (by omega)
    have hscale (k : Nat) : (f (k + 1)).toNat * 256 ^ (k + 1) = 256 * ((f (k + 1)).toNat * 256 ^ k) := by
      rw [Nat.pow_succ, Nat.mul_comm (256 ^ k), Nat.mul_left_comm]
    rw [List.range_succ_eq_map, List.map_cons, List.map_map, List.map_cons, List.map_map, List.sum_cons,
      toNat_assemble_cons _ _ (by simpa only [List.length_map, List.length_range] using Nat.le_of_succ_le_succ hn)]
    simp only [Function.comp_def, Nat.succ_eq_add_one, htail, hscale, sum_map_mul, Nat.pow_zero, Nat.mul_one]

/-- The low `n` bytes of a value stand for its low `8n` bits. -/
theorem sum_byteOf (v : Word) (n : Nat) :
    ((List.range n).map fun k => (byteOf v k).toNat * 256 ^ k).sum = v.toNat % 256 ^ n := by
  induction n with
  | zero => simp [Nat.mod_one]
  | succ n ih =>
    have hbyte : (byteOf v n).toNat = v.toNat / 256 ^ n % 256 := by
      simp [byteOf, BitVec.extractLsb'_toNat, Nat.shiftRight_eq_div_pow, Nat.pow_mul]
    rw [List.range_succ, List.map_append, List.sum_append, ih, Nat.mod_pow_succ]
    simp [hbyte, Nat.mul_comm]

/-- The bytes of a value put together are those it was put together from. -/
theorem byteOf_assemble (bytes : List Byte) {k : Nat} (hk : k < 8) : byteOf (assemble bytes) k = bytes.getD k 0#8 := by
  induction bytes generalizing k with
  | nil => simp [assemble, byteOf]
  | cons b rest ih =>
    apply BitVec.eq_of_getLsbD_eq
    intro j hj
    cases k with
    | zero => simp [assemble, byteOf, hj, Nat.lt_trans hj (by decide : 8 < 64)]
    | succ k =>
      have hbit := congrArg (BitVec.getLsbD · j) (ih (Nat.lt_of_succ_lt hk))
      have h0 : 8 * k + j < 64 := by omega
      have h1 : 8 * (k + 1) + j < 64 := by omega
      have h2 : ¬ 8 * (k + 1) + j < 8 := by omega
      have h3 : 8 * (k + 1) + j - 8 = 8 * k + j := by omega
      simp only [byteOf, BitVec.getLsbD_extractLsb', hj, decide_true, Bool.true_and] at hbit
      simpa [assemble, byteOf, hj, h0, h1, h2, h3, BitVec.getLsbD_of_ge b _ (Nat.le_of_not_lt h2)] using hbit

/-! Loads -/

/-- A load is the number that the statements read off the bytes (rule R42). -/
theorem Memory.toNat_load (e : Endian) (m : Memory) (a : Nat) {n : Nat} (hn : n ≤ 8) :
    (m.load e a n).toNat = value e m a n := by
  have hperm := (map_bytePlace_perm e n).map fun k => (m.read (a + k)).toNat * 256 ^ bytePlace e n k
  rw [Memory.load, toNat_assemble_range _ hn]
  simp only [value, place_eq_bytePlace]
  rw [← hperm.sum_nat, List.map_map]
  refine congrArg List.sum (List.map_congr_left fun k hk => ?_)
  simp [bytePlace_bytePlace e (List.mem_range.1 hk)]

/-- A load of the bytes that a store wrote gives the low `8n` bits of the value (rule R42). -/
theorem Memory.toNat_load_store (e : Endian) (m : Memory) (a : Nat) {n : Nat} (v : Word) (hn : n ≤ 8)
    (hb : a + n ≤ 2 ^ 64) : ((m.store e a n v).load e a n).toNat = v.toNat % 2 ^ (8 * n) := by
  have hbytes : (m.store e a n v).load e a n = assemble ((List.range n).map (byteOf v)) := by
    refine congrArg assemble (List.map_congr_left fun k hk => ?_)
    have hk := List.mem_range.1 hk
    rw [Memory.read_store_inside e m a n _ v (bytePlace_lt e hk) hb, bytePlace_bytePlace e hk]
  rw [hbytes, toNat_assemble_range _ hn, sum_byteOf, Nat.pow_mul]

/-- Settles O23: what a store leaves in each byte, and the number that a load makes of the bytes. -/
theorem loadAfterStore : Obligations.LoadAfterStore := by
  intro e m a n v hsize hb
  have hn : n ≤ 8 := by
    simp only [List.mem_cons, List.not_mem_nil, or_false] at hsize
    omega
  refine ⟨fun k hk => ?_, fun b hout => m.read_store_outside e a n b v hout, m.toNat_load_store e a v hn hb,
    m.toNat_load e a hn⟩
  rw [place_eq_bytePlace]
  exact m.read_store_inside e a n k v hk hb

/-- Settles O24: the rules of one byte write. -/
theorem byteReadAfterByteWrite : Obligations.ByteReadAfterByteWrite := by
  intro m a b v
  refine ⟨m.read_write_self a v, m.read_write_other a b v, fun ha => ?_, m.wf_write a v⟩
  exact if_neg (Nat.not_lt.2 ha)

end Sys2Proof.Machine
end

section
/-! Torn accesses with another agent: each byte is transferred at its turn, between the environment's writes (rules R43,
R45). -/

namespace Sys2Proof.Machine

open Sys2Proof.Spec

/-! The turn of one byte -/

section Turn

variable {order pre post : List (Nat × List Host.Cell)} {n k : Nat} {cells : List Host.Cell}

/-- In an order that names each byte once, a byte comes neither before nor after its own turn. -/
theorem turn_unique (hperm : (order.map (·.1)).Perm (List.range n)) (hsplit : order = pre ++ (k, cells) :: post) :
    k < n ∧ (∀ o ∈ pre, k ≠ o.1) ∧ ∀ o ∈ post, k ≠ o.1 := by
  subst hsplit
  have hnodup := hperm.nodup_iff.2 List.nodup_range
  simp only [List.map_append, List.map_cons, List.nodup_append, List.nodup_cons, List.mem_map, List.mem_cons] at hnodup
  obtain ⟨-, ⟨hpost, -⟩, hpre⟩ := hnodup
  refine ⟨List.mem_range.1 (hperm.subset (by simp)), fun o ho hk => ?_, fun o ho hk => ?_⟩
  · exact hpre o.1 ⟨o, ho, rfl⟩ k (.inl rfl) hk.symm
  · exact hpost ⟨o, ho, hk.symm⟩

/-- A torn load reads each byte at its turn. -/
theorem Memory.lookup_tornLoad {a : Nat} {m : Memory} (hpre : ∀ o ∈ pre, k ≠ o.1) :
    (Memory.tornLoad a (pre ++ (k, cells) :: post) m).1.lookup k
      = some ((m.writeCells (pre.flatMap (·.2) ++ cells)).read (a + k)) := by
  induction pre generalizing m with
  | nil => simp [Memory.tornLoad]
  | cons o pre ih =>
    have hne : (k == o.1) = false := beq_false_of_ne (hpre o (by simp))
    rw [List.flatMap_cons, List.append_assoc, Memory.writeCells_append,
      ← ih fun o ho => hpre o (by simp [ho])]
    simp only [List.cons_append, Memory.tornLoad, List.lookup_cons, hne]

/-- A torn store writes each byte at its turn, and only the environment may write it later. -/
theorem Memory.read_tornStore_turn {e : Endian} {v : Word} {a : Nat} {m m' : Memory} (hpost : ∀ o ∈ post, k ≠ o.1)
    (hlt : a + k < 2 ^ 64) :
    (Memory.tornStore e a n v (pre ++ (k, cells) :: post) m').read (a + k)
      = ((m.write (a + k) (byteOf v (bytePlace e n k))).writeCells (post.flatMap (·.2))).read (a + k) := by
  induction pre generalizing m' with
  | nil =>
    rw [List.nil_append, Memory.tornStore]
    refine Memory.read_tornStore_other ?_ fun o ho => ?_
    · rw [Memory.read_write_self _ _ _ hlt, Memory.read_write_self _ _ _ hlt]
    · have := hpost o ho
      omega
  | cons o pre ih => exact ih

end Turn

/-! The accesses of the machine -/

section Accesses

variable {s : State} {ea : Word} {n : Nat} {order : List (Nat × List Host.Cell)}

/-- An access that the statements call admitted passes the checks. -/
theorem State.refuses_of_admitted {kind : AccessKind} (h : Admitted s ea n kind) : s.refuses ea n kind = none := by
  obtain ⟨hfits, haligned, g, hg, hkind, hsize, hfirst, hlast⟩ := h
  have hadmits : Params.admits s.params ea n kind = true :=
    (Params.admits_iff _ _ _ _).2 ⟨g, hg, hkind, hsize, hfirst, hlast⟩
  obtain ⟨hwraps, -⟩ | ⟨-, hmis, hfault, -⟩ | ⟨-, -, hdenied, -⟩ | ⟨-, -, -, hr⟩ := s.refuses_cases ea n kind
  · omega
  · obtain hzero | ⟨hordinary, hperform⟩ := haligned
    · exact (hmis hzero).elim
    · obtain hatomic | hmis := hfault
      · exact (hordinary hatomic).elim
      · rw [hperform] at hmis
        cases hmis
  · rw [hadmits] at hdenied
    cases hdenied
  · exact hr

theorem misaligned_of_mod_ne (h : ea.toNat % n ≠ 0) : misaligned ea n = true := bne_iff_ne.2 h

/-- The order that the environment's turn gives is the one taken, if it names each byte once (rule R45). -/
theorem State.tornOrder_of_tornBy (h : TornBy s n order) : s.tornOrder n = order := by
  obtain ⟨u, hturn, rfl, hperm⟩ := h
  simp only [State.tornOrder, hturn, if_pos (List.isPerm_iff.2 hperm)]

/-- The memory after a torn read is as the environment's writes leave it. -/
theorem State.memRead_torn_memory (hby : TornBy s n order) (hmis : ea.toNat % n ≠ 0) :
    (s.memRead ea n).2 = s.mem.writeCells (order.flatMap (·.2)) := by
  rw [← Memory.tornLoad_memory ea.toNat, ← State.tornOrder_of_tornBy hby]
  simp only [State.memRead, misaligned_of_mod_ne hmis, if_true]

/-- The value of a torn read has no more bytes than were read. -/
theorem State.memRead_torn_lt (hmis : ea.toNat % n ≠ 0) : (s.memRead ea n).1.toNat < 2 ^ (8 * n) := by
  simp only [State.memRead, misaligned_of_mod_ne hmis, if_true]
  refine Nat.lt_of_lt_of_le (toNat_assemble_lt _) (Nat.le_of_eq ?_)
  rw [List.length_map, List.length_range]

/-- Each byte of a torn read is read at its turn. -/
theorem State.memRead_torn_byte (hn : n ≤ 8) (hby : TornBy s n order) (hmis : ea.toNat % n ≠ 0)
    {pre post : List (Nat × List Host.Cell)} {k : Nat} {cells : List Host.Cell}
    (hsplit : order = pre ++ (k, cells) :: post) :
    byteOf (s.memRead ea n).1 (bytePlace s.params.hostEndian n k)
      = (s.mem.writeCells (pre.flatMap (·.2) ++ cells)).read (ea.toNat + k) := by
  obtain ⟨hk, hpre, -⟩ := turn_unique (State.tornOrder_of_tornBy hby ▸ s.tornOrder_perm n) hsplit
  have hplace := bytePlace_lt s.params.hostEndian hk
  simp only [State.memRead, misaligned_of_mod_ne hmis, if_true]
  rw [byteOf_assemble _ (Nat.lt_of_lt_of_le hplace hn), State.tornOrder_of_tornBy hby, hsplit]
  simp [hplace, bytePlace_bytePlace _ hk, Memory.lookup_tornLoad hpre]

/-- An admitted load puts the value in the register and keeps what the environment did to memory meanwhile. -/
theorem loadReg_admitted {ext : Word → Word} {dst src : Reg} {offset : BitVec 16} {base : Word}
    (hbase : s.regs[src] = some base) (hok : s.refuses (effectiveAddress base offset) n .read = none) :
    loadReg n ext dst src offset s
      = .next (Wrote { s with mem := (s.memRead (effectiveAddress base offset) n).2 } dst
          (ext (s.memRead (effectiveAddress base offset) n).1) 1) :=
  (s.withReg_value src _ base hbase).trans (s.withAccess_admitted _ n .read _ hok)

end Accesses

/-- A load that is `loadReg` reads each byte of a torn access at its turn. -/
theorem tornLoad_of_loadReg {n : Nat} {mk : Reg → Reg → BitVec 16 → Instr} {ext : Word → Word} (hn : n ≤ 8)
    (hexec : ∀ dst src offset s, exec (mk dst src offset) s = loadReg n ext dst src offset s) : TornLoad n mk ext := by
  intro dst src offset s base order hbase hby ea hadmitted hmis
  refine ⟨(s.memRead ea n).1, fun pre k cells post hsplit => ?_, State.memRead_torn_lt hmis, ?_⟩
  · rw [place_eq_bytePlace]
    exact State.memRead_torn_byte hn hby hmis hsplit
  · rw [hexec, loadReg_admitted hbase (State.refuses_of_admitted hadmitted), ← State.memRead_torn_memory hby hmis]
    rfl

/-- A store that is `storeAt` writes each byte of a torn access at its turn. -/
theorem tornStoresAt_of_storeAt {i : Instr} {s : State} {n : Nat} {base v : Word} {offset : BitVec 16}
    (hexec : exec i s = storeAt n base offset v s) : TornStoresAt i s (base + offset.signExtend 64) n v := by
  intro order hby hadmitted hmis
  have hperm := State.tornOrder_of_tornBy hby ▸ s.tornOrder_perm n
  have hwrite : s.memWrite (base + offset.signExtend 64) n v
      = Memory.tornStore s.params.hostEndian (base + offset.signExtend 64).toNat n v order s.mem := by
    simp only [State.memWrite, misaligned_of_mod_ne hmis, if_true, State.tornOrder_of_tornBy hby]
  refine ⟨s.memWrite (base + offset.signExtend 64) n v, fun b hout => ?_, fun pre k cells post hsplit => ?_, ?_⟩
  · rw [hwrite]
    refine Memory.read_tornStore_other rfl fun o ho => ?_
    have := List.mem_range.1 (hperm.subset (List.mem_map_of_mem ho))
    omega
  · obtain ⟨hk, -, hpost⟩ := turn_unique hperm hsplit
    obtain ⟨hfits, -⟩ := hadmitted
    rw [hwrite, hsplit, place_eq_bytePlace]
    exact Memory.read_tornStore_turn hpost (by omega)
  · rw [hexec]
    exact s.withAccess_admitted _ n .write _ (State.refuses_of_admitted hadmitted)

/-- The torn register stores: both registers are read first. -/
theorem tornStoreReg_of_storeReg {n : Nat} {mk : Reg → Reg → BitVec 16 → Instr}
    (hexec : ∀ dst src offset s, exec (mk dst src offset) s = storeReg n dst src offset s) : TornStoreReg n mk := by
  intro dst src offset s base v hbase hv
  refine tornStoresAt_of_storeAt ((hexec dst src offset s).trans ?_)
  exact (s.withReg_value dst _ base hbase).trans (s.withReg_value src _ v hv)

/-- The torn immediate stores. -/
theorem tornStoreImm_of_storeImm {n : Nat} {mk : Reg → BitVec 16 → Word32 → Instr}
    (hexec : ∀ dst offset imm s, exec (mk dst offset imm) s = storeImm n dst offset imm s) : TornStoreImm n mk := by
  intro dst offset imm s base hbase
  exact tornStoresAt_of_storeAt ((hexec dst offset imm s).trans (s.withReg_value dst _ base hbase))

/-- Settles O47: each of these instructions is one of the three forms, which hold for every size. -/
theorem tornAccesses : Obligations.TornAccesses :=
  ⟨tornLoad_of_loadReg (by decide) fun _ _ _ _ => rfl, tornLoad_of_loadReg (by decide) fun _ _ _ _ => rfl,
    tornLoad_of_loadReg (by decide) fun _ _ _ _ => rfl, tornLoad_of_loadReg (by decide) fun _ _ _ _ => rfl,
    tornLoad_of_loadReg (by decide) fun _ _ _ _ => rfl, tornStoreReg_of_storeReg fun _ _ _ _ => rfl,
    tornStoreReg_of_storeReg fun _ _ _ _ => rfl, tornStoreReg_of_storeReg fun _ _ _ _ => rfl,
    tornStoreImm_of_storeImm fun _ _ _ _ => rfl, tornStoreImm_of_storeImm fun _ _ _ _ => rfl,
    tornStoreImm_of_storeImm fun _ _ _ _ => rfl⟩

end Sys2Proof.Machine
end

section
/-! The environment: its turn at each value of the counter, and what a turn leaves, by the platform's relations read as
relations (rules R48, R420; log entries 8 and 10). -/

namespace Sys2Proof.Machine

open Sys2Proof.Spec

/-! The platform's relations -/

/-- Taking all outcomes of a function a number of times is taking its relation that many times. -/
theorem mem_repeated_flatMap {α : Type} {f : α → List α} {R : α → α → Prop} (hf : ∀ x y, y ∈ f x ↔ R x y) (n : Nat)
    (l : List α) (y : α) : y ∈ repeated (fun l => l.flatMap f) n l ↔ ∃ x ∈ l, Times R n x y := by
  induction n generalizing l with
  | zero => simp [repeated, Times]
  | succ n ih =>
    rw [repeated, ih]
    simp only [List.mem_flatMap, hf, Times]
    constructor
    · rintro ⟨z, ⟨x, hx, hxz⟩, hz⟩
      exact ⟨x, hx, z, hxz, hz⟩
    · rintro ⟨x, hx, z, hxz, hz⟩
      exact ⟨z, ⟨x, hx, hxz⟩, hz⟩

/-- The values that a variable may be given, as the numbers the model lists (log entry 8). -/
theorem exists_ofNat_iff (w : Word) (p : Word → Prop) :
    (∃ v ∈ List.range (w.toNat + 1), p (BitVec.ofNat 64 v)) ↔ ∃ v ≤ w, p v := by
  constructor
  · rintro ⟨v, hv, hp⟩
    have hle := Nat.le_of_lt_succ (List.mem_range.1 hv)
    refine ⟨_, ?_, hp⟩
    rw [BitVec.le_def, BitVec.toNat_ofNat]
    exact Nat.le_trans (Nat.mod_le _ _) hle
  · rintro ⟨v, hv, hp⟩
    exact ⟨v.toNat, List.mem_range.2 (Nat.lt_succ_of_le hv), by simpa using hp⟩

/-- The model lists the states that a relation of the platform relates a state to (rule R251; log entry 8). -/
theorem HelperRel.mem_outcomes (c : PlatformSite) (h : HelperRel) (x y : PlatformState) :
    y ∈ HelperRel.outcomes c h x ↔ Relates c h x y := by
  induction h generalizing x y with
  | skip | setReg | setVar | anyMem => exact List.mem_singleton
  | fail => exact iff_of_false List.not_mem_nil id
  | store n ea v =>
    simp only [HelperRel.outcomes, Relates]
    cases PlatformExpr.eval c x ea <;> cases PlatformExpr.eval c x v <;> simp
  | test e =>
    simp only [HelperRel.outcomes, Relates]
    cases PlatformExpr.eval c x e with
    | none => simp
    | some w => by_cases hw : w = 0#64 <;> simp [hw]
  | pick k last =>
    simp only [HelperRel.outcomes, Relates]
    cases PlatformExpr.eval c x last with
    | none => simp
    | some w =>
      have hvalues := exists_ofNat_iff w fun v => y = { x with vars := (k, some v) :: x.vars }
      simpa [eq_comm] using hvalues
  | seq a b iha ihb => simp only [HelperRel.outcomes, Relates, List.mem_flatMap, iha, ihb]
  | either a b iha ihb => simp only [HelperRel.outcomes, Relates, List.mem_append, iha, ihb]
  | loop count b ih =>
    simp only [HelperRel.outcomes, Relates]
    cases PlatformExpr.eval c x count with
    | none => simp
    | some k => simp [mem_repeated_flatMap ih]

/-! The environment's turn -/

section Turns

variable {s : State} {k : Nat}

theorem State.turn_of_listed {u : EnvTurn} (h : s.params.environment.turns[s.ticks]? = some u) : s.turn = some u := by
  simp only [State.turn, Environment.turn, h]

theorem State.no_listed_turn (h : s.ticks = s.params.environment.turns.length + k) :
    s.params.environment.turns[s.ticks]? = none := List.getElem?_eq_none (by omega)

theorem State.turn_of_silent (h : s.ticks = s.params.environment.turns.length + k)
    (hrest : s.params.environment.rest = .silent) : s.turn = none := by
  simp only [State.turn, Environment.turn, State.no_listed_turn h, hrest]

theorem State.turn_of_cycle (h : s.ticks = s.params.environment.turns.length + k) {us : List EnvTurn}
    (hrest : s.params.environment.rest = .cycle us) : s.turn = us[k % us.length]? := by
  have hk : s.ticks - s.params.environment.turns.length = k := by omega
  simp only [State.turn, Environment.turn, State.no_listed_turn h, hrest, hk]

theorem State.turn_of_free (h : s.ticks = s.params.environment.turns.length + k)
    (hrest : s.params.environment.rest = .free) : s.turn = some (Config.freeTurn s.ticks) := by
  simp only [State.turn, Environment.turn, State.no_listed_turn h, hrest]

/-- A turn leaves the environment's writes where its relation relates memory to nothing, and else the memory of a state
that it relates to (log entry 10). -/
theorem State.environmentMem_cases (s : State) (u : EnvTurn) :
    (∀ y, ¬ TurnLeaves s u y) ∧ s.environmentMem u = s.mem.writeCells u.before ∨
      ∃ y, TurnLeaves s u y ∧ s.environmentMem u = y.mem := by
  unfold State.environmentMem
  obtain ⟨hnone, hchoose⟩ | ⟨y, hy, hchoose⟩ := HelperRel.choose_cases (s.siteOf .environment) u.act
    { regs := Vector.replicate 11 none, mem := s.mem.writeCells u.before, vars := [] }
  · refine .inl ⟨fun y hy => ?_, by simp only [hchoose]⟩
    have hmem := (HelperRel.mem_outcomes _ _ _ _).2 hy
    exact List.not_mem_nil (hnone ▸ hmem)
  · exact .inr ⟨y, (HelperRel.mem_outcomes _ _ _ _).1 hy, by simp only [hchoose]⟩

end Turns

/-- A step of a Running machine executes what is fetched, or takes the fault of the fetch, after the environment's turn
(rule R420). -/
theorem step_of_fetch {s : State} (hr : s.status = .running) (hg : AdmissibleGroups s.params.groups) :
    (∀ i, s.fetch = .ok i → step s = exec i (AfterEnvironment s)) ∧
      ∀ tr, s.fetch = .error tr → step s = .next (Faulted (AfterEnvironment s) tr) := by
  rw [step_of_admissible s hr hg, afterEnvironment_eq, ← s.environmentActs_fetch]
  constructor
  · intro i hi
    simp only [State.runInstr, hi]
  · intro tr htr
    simp only [State.runInstr, htr]
    rfl

/-- Settles O56: the environment's turn by the counter, what a turn makes of memory, and its place in a step. -/
theorem environmentActsFirst : Obligations.EnvironmentActsFirst := by
  have hnoTurn (s : State) (h : s.turn = none) : AfterEnvironment s = s :=
    (afterEnvironment_eq s).trans (s.environmentActs_noTurn h)
  refine ⟨fun _ _ => State.turn_of_listed, fun s k h => ?_, hnoTurn,
    fun s h => hnoTurn s (State.turn_of_alone h), fun s u hturn => ?_, fun s hr hg => ?_⟩
  · exact ⟨State.turn_of_silent h, fun _ => State.turn_of_cycle h, State.turn_of_free h⟩
  · refine ⟨s.environmentMem u, (afterEnvironment_eq s).trans (s.environmentActs_turn u hturn), ?_⟩
    obtain ⟨hnone, hmem⟩ | ⟨y, hy, hmem⟩ := s.environmentMem_cases u
    · exact ⟨fun _ => hmem, fun ⟨y, hy⟩ => (hnone y hy).elim⟩
    · exact ⟨fun hnone => (hnone y hy).elim, fun _ => ⟨y, hy, hmem⟩⟩
  · obtain ⟨hok, herror⟩ := step_of_fetch hr hg
    cases hfetch : s.fetch with
    | ok i => exact hok i hfetch
    | error tr => exact herror tr hfetch

end Sys2Proof.Machine
end

section
/-! What decoding makes of the two register fields of a slot, everything else of the slot held fixed: a row of the
opcode table accepts what its encoding lays out and nothing else, and looks at a register number last (rules R64, R73,
R78, R409). -/

namespace Sys2Proof

/-! The last check of decoding: register numbers (step 5 of rule R73) -/

theorem oneReg_of_le {n : BitVec 4} (h : n.toNat ≤ 10) (mk : Reg → Instr) : ∃ i, oneReg n mk = .ok i := by
  unfold oneReg
  cases hn : regOf n with
  | some r => exact ⟨mk r, rfl⟩
  | none => exact absurd ((regOf_eq_none n).1 hn) (by omega)

theorem oneReg_of_gt {n : BitVec 4} (h : 10 < n.toNat) (mk : Reg → Instr) :
    oneReg n mk = .error .badRegister := by
  unfold oneReg
  rw [(regOf_eq_none n).2 h]

theorem twoRegs_of_le {d s : BitVec 4} (hd : d.toNat ≤ 10) (hs : s.toNat ≤ 10) (mk : Reg → Reg → Instr) :
    ∃ i, twoRegs d s mk = .ok i := by
  unfold twoRegs
  cases hd' : regOf d with
  | some r =>
    cases hs' : regOf s with
    | some q => exact ⟨mk r q, rfl⟩
    | none => exact absurd ((regOf_eq_none s).1 hs') (by omega)
  | none => exact absurd ((regOf_eq_none d).1 hd') (by omega)

theorem twoRegs_of_gt {d s : BitVec 4} (h : 10 < d.toNat ∨ 10 < s.toNat) (mk : Reg → Reg → Instr) :
    twoRegs d s mk = .error .badRegister := by
  unfold twoRegs
  obtain hd | hs := h
  · rw [(regOf_eq_none d).2 hd]
  · rw [(regOf_eq_none s).2 hs]
    cases regOf d <;> rfl

/-! The statement of rule R409 about one row -/

/-- A register field with a number above 10 replaced. -/
def repair (n m : BitVec 4) : BitVec 4 := if 10 < n.toNat then m else n

/-- Decoding of the two register fields reports `BadRegister` exactly when some register number is above 10 and
replacing such numbers, in whatever way, leaves nothing to object to (rules R73, R409). -/
def RegistersLast (D : BitVec 4 → BitVec 4 → Decoded) : Prop :=
  ∀ d s, D d s = .error .badRegister ↔ (10 < d.toNat ∨ 10 < s.toNat) ∧
    ∀ d' s' : BitVec 4, d'.toNat ≤ 10 → s'.toNat ≤ 10 → ∃ i, D (repair d d') (repair s s') = .ok i

/-- What a row may ask of a register field before step 5 of rule R73: of the numbers above 10 it admits all or none, and
it admits all of them only if it admits every register. So it asks either nothing of the field's number or that it be
some smaller one. -/
def AsksNoRegister (p : BitVec 4 → Prop) : Prop := ∀ n, 10 < n.toNat → (p n ↔ ∀ m, m.toNat ≤ 10 → p m)

theorem asksNoRegister_const (c : Prop) : AsksNoRegister fun _ => c :=
  fun _ _ => ⟨fun h _ _ => h, fun h => h 0 (by decide)⟩

theorem asksNoRegister_of_lt {p : BitVec 4 → Prop} (h : ∀ n, p n → n.toNat < 10) : AsksNoRegister p := by
  refine fun n hn => ⟨fun hp => ?_, fun hp => ?_⟩
  · have := h n hp
    omega
  · exact absurd (h 10 (hp 10 (by decide))) (by decide)

theorem AsksNoRegister.iff_repair {p : BitVec 4 → Prop} (hp : AsksNoRegister p) (n : BitVec 4) :
    p n ↔ ∀ m, m.toNat ≤ 10 → p (repair n m) := by
  unfold repair
  split
  next h => exact hp n h
  next => exact ⟨fun h _ _ => h, fun h => h 0 (by decide)⟩

theorem repair_le {n m : BitVec 4} (h : m.toNat ≤ 10) : (repair n m).toNat ≤ 10 := by
  unfold repair
  split <;> omega

theorem not_gt_of_repair_lt {n : BitVec 4} (h : (repair n 10).toNat < 10) : ¬ 10 < n.toNat := by
  unfold repair at h
  split at h
  · exact absurd h (by decide)
  next hn => exact hn

/-- A decoder that first checks the fields by `p` and `q`, for another reason than `BadRegister`, and then the register
numbers, looks at the register numbers last. -/
theorem registersLast_of_checks {D : BitVec 4 → BitVec 4 → Decoded} {p q : BitVec 4 → Prop}
    (hp : AsksNoRegister p) (hq : AsksNoRegister q)
    (hfail : ∀ d s, ¬ (p d ∧ q s) → ∃ e, e ≠ .badRegister ∧ D d s = .error e)
    (hbad : ∀ d s, p d → q s → 10 < d.toNat ∨ 10 < s.toNat → D d s = .error .badRegister)
    (hok : ∀ d s, p d → q s → d.toNat ≤ 10 → s.toNat ≤ 10 → ∃ i, D d s = .ok i) : RegistersLast D := by
  intro d s
  constructor
  · intro h
    have hpq : p d ∧ q s := by
      refine Classical.byContradiction fun hn => ?_
      obtain ⟨e, he, hD⟩ := hfail d s hn
      exact he (Except.error.inj (hD ▸ h))
    refine ⟨?_, fun d' s' hd' hs' => hok _ _ ((hp.iff_repair d).1 hpq.1 d' hd') ((hq.iff_repair s).1 hpq.2 s' hs')
      (repair_le hd') (repair_le hs')⟩
    refine Classical.byContradiction fun hn => ?_
    obtain ⟨i, hi⟩ := hok d s hpq.1 hpq.2 (by omega) (by omega)
    cases hi.symm.trans h
  · rintro ⟨hgt, hrep⟩
    have hpq : ∀ d' s' : BitVec 4, d'.toNat ≤ 10 → s'.toNat ≤ 10 → p (repair d d') ∧ q (repair s s') := by
      intro d' s' hd' hs'
      refine Classical.byContradiction fun hn => ?_
      obtain ⟨e, -, hD⟩ := hfail _ _ hn
      obtain ⟨i, hi⟩ := hrep d' s' hd' hs'
      cases hD.symm.trans hi
    exact hbad d s ((hp.iff_repair d).2 fun d' hd' => (hpq d' 0 hd' (by decide)).1)
      ((hq.iff_repair s).2 fun s' hs' => (hpq 0 s' (by decide) hs').2) hgt

/-! The rows -/

/-- `i` is an instruction and these are its slots. -/
def LaidOut (i : Instr) (slots : List Fields) : Prop := i.wellFormed = true ∧ encode i = slots

/-- A row of the opcode table, as the decoder of the register fields of a slot whose other fields are `op`, `off` and
`imm`: what it accepts is laid out as the slot and then `tail` (rules R64, R65), it looks at register numbers last
(rule R409), and where `op` is no opcode of Table O it accepts nothing (rule R77). -/
structure IsRow (op : BitVec 8) (off : BitVec 16) (imm : Word32) (tail : List Fields)
    (D : BitVec 4 → BitVec 4 → Decoded) : Prop where
  encodes : ∀ {d s i}, D d s = .ok i → LaidOut i (⟨op, d, s, off, imm⟩ :: tail)
  registersLast : RegistersLast D
  reserved : op ∉ Spec.definedOpcodes → ∀ d s, D d s = .error .reserved

/-- A slot decoded without a register operand: rejected as Reserved, or with both register fields at fixed numbers. -/
def NoOperand (op : BitVec 8) (off : BitVec 16) (imm : Word32) (tail : List Fields) (d s : BitVec 4) (x : Decoded) :
    Prop :=
  x = .error .reserved ∨ ∃ i, x = .ok i ∧ d.toNat < 10 ∧ s.toNat < 10 ∧ LaidOut i (⟨op, d, s, off, imm⟩ :: tail)

theorem NoOperand.fixed {op : BitVec 8} {off : BitVec 16} {imm : Word32} {tail : List Fields} {d s : BitVec 4}
    {i : Instr} {c : Prop} [Decidable c]
    (h : c → d.toNat < 10 ∧ s.toNat < 10 ∧ LaidOut i (⟨op, d, s, off, imm⟩ :: tail)) :
    NoOperand op off imm tail d s (fixed c (.ok i)) := by
  by_cases hc : c
  · exact .inr ⟨i, by simp [Sys2Proof.fixed, hc], h hc⟩
  · exact .inl (by simp [Sys2Proof.fixed, hc])

theorem NoOperand.immOnly {op : BitVec 8} {off : BitVec 16} {imm : Word32} {d s src : BitVec 4} {mk : Word32 → Instr}
    (hsrc : src.toNat < 10) (h : LaidOut (mk imm) [⟨op, 0, src, 0, imm⟩]) :
    NoOperand op off imm [] d s (Fields.immOnly ⟨op, d, s, off, imm⟩ src mk) := by
  refine NoOperand.fixed ?_
  rintro ⟨rfl, rfl, rfl⟩
  exact ⟨by decide, hsrc, h⟩

/-- The slots with one value of `src_reg`, as a decoder `E` of `dst_reg`: `dst_reg` is the register operand of an
instruction, or every such slot is rejected for another reason than its register numbers. -/
def DstOperand (op : BitVec 8) (off : BitVec 16) (imm : Word32) (tail : List Fields) (s : BitVec 4)
    (E : BitVec 4 → Decoded) : Prop :=
  (∃ mk, (∀ d, E d = oneReg d mk) ∧ s.toNat < 10 ∧ ∀ r, LaidOut (mk r) (⟨op, regBits r, s, off, imm⟩ :: tail)) ∨
    ∃ e, e ≠ .badRegister ∧ ∀ d, E d = .error e

theorem DstOperand.error {op : BitVec 8} {off : BitVec 16} {imm : Word32} {tail : List Fields} {s : BitVec 4}
    (e : IllegalReason) (he : e ≠ .badRegister) : DstOperand op off imm tail s fun _ => .error e :=
  .inr ⟨e, he, fun _ => rfl⟩

theorem DstOperand.fixed {op : BitVec 8} {off : BitVec 16} {imm : Word32} {tail : List Fields} {s : BitVec 4}
    (c : Prop) [Decidable c] {E : BitVec 4 → Decoded} (hE : c → DstOperand op off imm tail s E) :
    DstOperand op off imm tail s fun d => fixed c (E d) := by
  by_cases hc : c
  · simpa [Sys2Proof.fixed, hc] using hE hc
  · simpa [Sys2Proof.fixed, hc] using error .reserved (by decide)

theorem DstOperand.oneReg {op : BitVec 8} {off : BitVec 16} {imm : Word32} {tail : List Fields} {s : BitVec 4}
    {mk : Reg → Instr} (hs : s.toNat < 10) (h : ∀ r, LaidOut (mk r) (⟨op, regBits r, s, off, imm⟩ :: tail)) :
    DstOperand op off imm tail s fun d => oneReg d mk :=
  .inl ⟨mk, fun _ => rfl, hs, h⟩

namespace IsRow

variable {op : BitVec 8} {off : BitVec 16} {imm : Word32} {tail : List Fields}
  {D E : BitVec 4 → BitVec 4 → Decoded}

theorem error (e : IllegalReason) (he : e ≠ .badRegister) (hop : op ∈ Spec.definedOpcodes ∨ e = .reserved) :
    IsRow op off imm tail fun _ _ => .error e where
  encodes h := nomatch h
  registersLast := registersLast_of_checks (p := fun _ => False) (q := fun _ => False) (asksNoRegister_const _)
    (asksNoRegister_const _) (fun _ _ _ => ⟨e, he, rfl⟩) (fun _ _ h => h.elim) (fun _ _ h => h.elim)
  reserved hn _ _ := congrArg Except.error (hop.resolve_left hn)

theorem undefined : IsRow op off imm tail fun _ _ => .error .reserved := error .reserved (by decide) (.inr rfl)

theorem ite {c : Prop} [Decidable c] (hD : c → IsRow op off imm tail D) (hE : ¬ c → IsRow op off imm tail E) :
    IsRow op off imm tail fun d s => if c then D d s else E d s := by
  split
  next h => exact hD h
  next h => exact hE h

/-- A row without register operands accepts no register number above 9, so it never reports `BadRegister`. -/
theorem noReg (hop : op ∈ Spec.definedOpcodes) (h : ∀ d s, NoOperand op off imm tail d s (D d s)) :
    IsRow op off imm tail D where
  encodes {d s i} hD := by
    obtain hr | ⟨j, hj, -, -, hlaid⟩ := h d s
    · cases hr.symm.trans hD
    · cases hj.symm.trans hD
      exact hlaid
  registersLast d s := by
    constructor
    · intro hD
      obtain hr | ⟨j, hj, -⟩ := h d s
      · cases hr.symm.trans hD
      · cases hj.symm.trans hD
    · rintro ⟨hgt, hrep⟩
      obtain ⟨i, hi⟩ := hrep 10 10 (by decide) (by decide)
      obtain hr | ⟨j, -, hd, hs, -⟩ := h (repair d 10) (repair s 10)
      · cases hr.symm.trans hi
      · exact absurd hgt (not_or.2 ⟨not_gt_of_repair_lt hd, not_gt_of_repair_lt hs⟩)
  reserved hn := absurd hop hn

/-- A row whose one register operand is `dst_reg`: each value of `src_reg` selects
one instruction or is rejected. -/
theorem oneDst (hop : op ∈ Spec.definedOpcodes) (h : ∀ s, DstOperand op off imm tail s (D · s)) :
    IsRow op off imm tail D where
  encodes {d s i} hD := by
    obtain ⟨mk, hmk, -, hlaid⟩ | ⟨e, -, he⟩ := h s
    · obtain ⟨r, rfl, rfl⟩ := (oneReg_ok _ _ _).1 ((hmk d).symm.trans hD)
      exact hlaid r
    · cases (he d).symm.trans hD
  registersLast := by
    refine registersLast_of_checks (p := fun _ => True) (q := fun s => s.toNat < 10 ∧ ∃ mk, ∀ d, D d s = oneReg d mk)
      (asksNoRegister_const _) (asksNoRegister_of_lt fun _ hs => hs.1) (fun d s hn => ?_) ?_ ?_
    · obtain ⟨mk, hmk, hs, -⟩ | ⟨e, he, hD⟩ := h s
      · exact absurd ⟨trivial, hs, mk, hmk⟩ hn
      · exact ⟨e, he, hD d⟩
    · rintro d s - ⟨hs, mk, hmk⟩ hgt
      exact (hmk d).trans (oneReg_of_gt (by omega) mk)
    · rintro d s - ⟨-, mk, hmk⟩ hd -
      exact (hmk d).symm ▸ oneReg_of_le hd mk
  reserved hn := absurd hop hn

/-- A row with two register operands. -/
theorem fixedBoth (hop : op ∈ Spec.definedOpcodes) (c : Prop) [Decidable c] (mk : Reg → Reg → Instr)
    (hD : ∀ d s, D d s = fixed c (twoRegs d s mk))
    (h : c → ∀ r q, LaidOut (mk r q) (⟨op, regBits r, regBits q, off, imm⟩ :: tail)) :
    IsRow op off imm tail D where
  encodes hi := by
    rw [hD, fixed_ok, decide_eq_true_eq] at hi
    obtain ⟨hc, hi⟩ := hi
    obtain ⟨r, q, rfl, rfl, rfl⟩ := (twoRegs_ok _ _ _ _).1 hi
    exact h hc r q
  registersLast := by
    refine registersLast_of_checks (p := fun _ => c) (q := fun _ => c) (asksNoRegister_const _)
      (asksNoRegister_const _) (fun d s hn => ⟨.reserved, by decide, ?_⟩) ?_ ?_
    · have hc : ¬ c := fun hc => hn ⟨hc, hc⟩
      simp [hD, fixed, hc]
    · intro d s hc _ hgt
      simpa [hD, fixed, hc] using twoRegs_of_gt hgt mk
    · intro d s hc _ hd hs
      simpa [hD, fixed, hc] using twoRegs_of_le hd hs mk
  reserved hn := absurd hop hn

/-! The forms of the decoder -/

theorem arithK (hop : op ∈ Spec.definedOpcodes) {off' : BitVec 16} {mk : Reg → Word32 → Instr}
    (h : ∀ r, LaidOut (mk r imm) [⟨op, regBits r, 0, off', imm⟩]) :
    IsRow op off imm [] fun d s => Fields.arithK ⟨op, d, s, off, imm⟩ off' mk := by
  refine oneDst hop fun s => .fixed (s = 0 ∧ off = off') ?_
  rintro ⟨rfl, rfl⟩
  exact .oneReg (by decide) h

theorem arithX (hop : op ∈ Spec.definedOpcodes) {off' : BitVec 16} {mk : Reg → Reg → Instr}
    (h : ∀ r q, LaidOut (mk r q) [⟨op, regBits r, regBits q, off', 0⟩]) :
    IsRow op off imm [] fun d s => Fields.arithX ⟨op, d, s, off, imm⟩ off' mk := by
  refine fixedBoth hop (off = off' ∧ imm = 0) mk (fun _ _ => rfl) ?_
  rintro ⟨rfl, rfl⟩
  exact h

theorem unary (hop : op ∈ Spec.definedOpcodes) {imm' : Word32} {mk : Reg → Instr}
    (h : ∀ r, LaidOut (mk r) [⟨op, regBits r, 0, 0, imm'⟩]) :
    IsRow op off imm [] fun d s => Fields.unary ⟨op, d, s, off, imm⟩ imm' mk := by
  refine oneDst hop fun s => .fixed (s = 0 ∧ off = 0 ∧ imm = imm') ?_
  rintro ⟨rfl, rfl, rfl⟩
  exact .oneReg (by decide) h

theorem swap (hop : op ∈ Spec.definedOpcodes) {mk16 mk32 mk64 : Reg → Instr}
    (h16 : ∀ r, LaidOut (mk16 r) [⟨op, regBits r, 0, 0, 16⟩])
    (h32 : ∀ r, LaidOut (mk32 r) [⟨op, regBits r, 0, 0, 32⟩])
    (h64 : ∀ r, LaidOut (mk64 r) [⟨op, regBits r, 0, 0, 64⟩]) :
    IsRow op off imm [] fun d s => Fields.swap ⟨op, d, s, off, imm⟩ mk16 mk32 mk64 :=
  ite (c := imm = 16) (fun _ => unary hop h16) fun _ =>
    ite (c := imm = 32) (fun _ => unary hop h32) fun _ => unary hop h64

theorem jumpK (hop : op ∈ Spec.definedOpcodes) {mk : Reg → Word32 → BitVec 16 → Instr}
    (h : ∀ r, LaidOut (mk r imm off) [⟨op, regBits r, 0, off, imm⟩]) :
    IsRow op off imm [] fun d s => Fields.jumpK ⟨op, d, s, off, imm⟩ mk := by
  refine oneDst hop fun s => .fixed (s = 0) ?_
  rintro rfl
  exact .oneReg (by decide) h

theorem jumpX (hop : op ∈ Spec.definedOpcodes) {mk : Reg → Reg → BitVec 16 → Instr}
    (h : ∀ r q, LaidOut (mk r q off) [⟨op, regBits r, regBits q, off, 0⟩]) :
    IsRow op off imm [] fun d s => Fields.jumpX ⟨op, d, s, off, imm⟩ mk := by
  refine fixedBoth hop (imm = 0) (mk · · off) (fun _ _ => rfl) ?_
  rintro rfl
  exact h

theorem memX (hop : op ∈ Spec.definedOpcodes) {imm' : Word32} {mk : Reg → Reg → BitVec 16 → Instr}
    (h : ∀ r q, LaidOut (mk r q off) [⟨op, regBits r, regBits q, off, imm'⟩]) :
    IsRow op off imm [] fun d s => Fields.memX ⟨op, d, s, off, imm⟩ imm' mk := by
  refine fixedBoth hop (imm = imm') (mk · · off) (fun _ _ => rfl) ?_
  rintro rfl
  exact h

theorem memK (hop : op ∈ Spec.definedOpcodes) {mk : Reg → BitVec 16 → Word32 → Instr}
    (h : ∀ r, LaidOut (mk r off imm) [⟨op, regBits r, 0, off, imm⟩]) :
    IsRow op off imm [] fun d s => Fields.memK ⟨op, d, s, off, imm⟩ mk := by
  refine oneDst hop fun s => .fixed (s = 0) ?_
  rintro rfl
  exact .oneReg (by decide) h

/-- A packet load of the IND form is the one row whose register operand is `src_reg` alone. -/
theorem packetInd (hop : op ∈ Spec.definedOpcodes) {mk : Reg → Word32 → Instr}
    (h : ∀ q, LaidOut (mk q imm) [⟨op, 0, regBits q, 0, imm⟩]) :
    IsRow op off imm [] fun d s => Fields.packetInd ⟨op, d, s, off, imm⟩ mk where
  encodes hD := by
    obtain ⟨hc, hs⟩ := (fixed_ok _ _ _).1 hD
    obtain ⟨rfl, rfl⟩ := of_decide_eq_true hc
    obtain ⟨q, rfl, rfl⟩ := (oneReg_ok _ _ _).1 hs
    exact h q
  registersLast := by
    refine registersLast_of_checks (p := fun d => d = 0 ∧ off = 0) (q := fun _ => True)
      (asksNoRegister_of_lt fun _ hd => hd.1 ▸ by decide) (asksNoRegister_const _)
      (fun d s hn => ⟨.reserved, by decide, if_neg ?_⟩) ?_ ?_
    · simpa using hn
    · rintro d s ⟨rfl, rfl⟩ - hgt
      exact oneReg_of_gt (hgt.resolve_left (by decide)) _
    · rintro d s ⟨rfl, rfl⟩ - - hs
      exact oneReg_of_le hs _
  reserved hn := absurd hop hn

end IsRow

/-! The classes of the decoder: the cases of each proof are the rows of its class, in the decoder's order. -/

theorem decodeAlu_isRow (op : BitVec 8) (off : BitVec 16) (imm : Word32) :
    IsRow op off imm [] fun d s => decodeAlu ⟨op, d, s, off, imm⟩ := by
  unfold decodeAlu
  dsimp only
  split
  case h_1 | h_3 | h_5 | h_9 | h_11 | h_13 | h_15 | h_20 | h_22 | h_24 =>
    exact .arithK (by decide) fun _ => ⟨rfl, rfl⟩
  case h_2 | h_4 | h_6 | h_10 | h_12 | h_14 | h_16 | h_21 | h_25 =>
    exact .arithX (by decide) fun _ _ => ⟨rfl, rfl⟩
  case h_7 | h_18 =>
    exact .ite (fun _ => .arithK (by decide) fun _ => ⟨rfl, rfl⟩) fun _ => .arithK (by decide) fun _ => ⟨rfl, rfl⟩
  case h_8 | h_19 =>
    exact .ite (fun _ => .arithX (by decide) fun _ _ => ⟨rfl, rfl⟩) fun _ => .arithX (by decide) fun _ _ => ⟨rfl, rfl⟩
  case h_17 => exact .unary (by decide) fun _ => ⟨rfl, rfl⟩
  case h_23 =>
    iterate 2 refine .ite (fun _ => .arithX (by decide) fun _ _ => ⟨rfl, rfl⟩) fun _ => ?_
    exact .arithX (by decide) fun _ _ => ⟨rfl, rfl⟩
  case h_26 | h_27 =>
    exact .swap (by decide) (fun _ => ⟨rfl, rfl⟩) (fun _ => ⟨rfl, rfl⟩) fun _ => ⟨rfl, rfl⟩
  case h_28 => exact .undefined

theorem decodeAlu64_isRow (op : BitVec 8) (off : BitVec 16) (imm : Word32) :
    IsRow op off imm [] fun d s => decodeAlu64 ⟨op, d, s, off, imm⟩ := by
  unfold decodeAlu64
  dsimp only
  split
  case h_1 | h_3 | h_5 | h_9 | h_11 | h_13 | h_15 | h_20 | h_22 | h_24 =>
    exact .arithK (by decide) fun _ => ⟨rfl, rfl⟩
  case h_2 | h_4 | h_6 | h_10 | h_12 | h_14 | h_16 | h_21 | h_25 =>
    exact .arithX (by decide) fun _ _ => ⟨rfl, rfl⟩
  case h_7 | h_18 =>
    exact .ite (fun _ => .arithK (by decide) fun _ => ⟨rfl, rfl⟩) fun _ => .arithK (by decide) fun _ => ⟨rfl, rfl⟩
  case h_8 | h_19 =>
    exact .ite (fun _ => .arithX (by decide) fun _ _ => ⟨rfl, rfl⟩) fun _ => .arithX (by decide) fun _ _ => ⟨rfl, rfl⟩
  case h_17 => exact .unary (by decide) fun _ => ⟨rfl, rfl⟩
  case h_23 =>
    iterate 3 refine .ite (fun _ => .arithX (by decide) fun _ _ => ⟨rfl, rfl⟩) fun _ => ?_
    exact .arithX (by decide) fun _ _ => ⟨rfl, rfl⟩
  case h_26 =>
    exact .swap (by decide) (fun _ => ⟨rfl, rfl⟩) (fun _ => ⟨rfl, rfl⟩) fun _ => ⟨rfl, rfl⟩
  case h_27 => exact .undefined

theorem decodeJmp_isRow (op : BitVec 8) (off : BitVec 16) (imm : Word32) :
    IsRow op off imm [] fun d s => decodeJmp ⟨op, d, s, off, imm⟩ := by
  unfold decodeJmp
  dsimp only
  split
  case h_1 =>
    refine .noReg (by decide) fun d s => .fixed ?_
    rintro ⟨rfl, rfl, rfl⟩
    exact ⟨by decide, by decide, rfl, rfl⟩
  case h_2 | h_4 | h_6 | h_8 | h_10 | h_12 | h_14 | h_18 | h_20 | h_22 | h_24 =>
    exact .jumpK (by decide) fun _ => ⟨rfl, rfl⟩
  case h_3 | h_5 | h_7 | h_9 | h_11 | h_13 | h_15 | h_19 | h_21 | h_23 | h_25 =>
    exact .jumpX (by decide) fun _ _ => ⟨rfl, rfl⟩
  case h_16 =>
    refine .noReg (by decide) fun d s => ?_
    split
    next => exact .immOnly (by decide) ⟨rfl, rfl⟩
    next =>
      split
      next => exact .immOnly (by decide) ⟨rfl, rfl⟩
      next => exact .immOnly (by decide) ⟨rfl, rfl⟩
  case h_17 =>
    refine .noReg (by decide) fun d s => .fixed ?_
    rintro ⟨rfl, rfl, rfl, rfl⟩
    exact ⟨by decide, by decide, rfl, rfl⟩
  case h_26 => exact .undefined

theorem decodeJmp32_isRow (op : BitVec 8) (off : BitVec 16) (imm : Word32) :
    IsRow op off imm [] fun d s => decodeJmp32 ⟨op, d, s, off, imm⟩ := by
  unfold decodeJmp32
  dsimp only
  split
  case h_1 => exact .noReg (by decide) fun d s => .immOnly (by decide) ⟨rfl, rfl⟩
  case h_2 | h_4 | h_6 | h_8 | h_10 | h_12 | h_14 | h_16 | h_18 | h_20 | h_22 =>
    exact .jumpK (by decide) fun _ => ⟨rfl, rfl⟩
  case h_3 | h_5 | h_7 | h_9 | h_11 | h_13 | h_15 | h_17 | h_19 | h_21 | h_23 =>
    exact .jumpX (by decide) fun _ _ => ⟨rfl, rfl⟩
  case h_24 => exact .undefined

theorem decodeLdx_isRow (op : BitVec 8) (off : BitVec 16) (imm : Word32) :
    IsRow op off imm [] fun d s => decodeLdx ⟨op, d, s, off, imm⟩ := by
  unfold decodeLdx
  dsimp only
  split
  case h_1 | h_2 | h_3 | h_4 | h_5 | h_6 | h_7 =>
    exact .memX (by decide) fun _ _ => ⟨rfl, rfl⟩
  case h_8 => exact .undefined

theorem decodeSt_isRow (op : BitVec 8) (off : BitVec 16) (imm : Word32) :
    IsRow op off imm [] fun d s => decodeSt ⟨op, d, s, off, imm⟩ := by
  unfold decodeSt
  dsimp only
  split
  case h_1 | h_2 | h_3 | h_4 =>
    exact .memK (by decide) fun _ => ⟨rfl, rfl⟩
  case h_5 => exact .undefined

theorem decodeStx_isRow (op : BitVec 8) (off : BitVec 16) (imm : Word32) :
    IsRow op off imm [] fun d s => decodeStx ⟨op, d, s, off, imm⟩ := by
  unfold decodeStx
  dsimp only
  split
  case h_1 | h_2 | h_3 | h_4 =>
    exact .memX (by decide) fun _ _ => ⟨rfl, rfl⟩
  case h_5 | h_6 =>
    iterate 9 refine .ite (fun _ => .memX (by decide) fun _ _ => ⟨rfl, rfl⟩) fun _ => ?_
    exact .memX (by decide) fun _ _ => ⟨rfl, rfl⟩
  case h_7 => exact .undefined

theorem decodeLd_isRow (op : BitVec 8) (off : BitVec 16) (imm : Word32) :
    IsRow op off imm [] fun d s => decodeLd ⟨op, d, s, off, imm⟩ := by
  unfold decodeLd
  dsimp only
  split
  case h_1 | h_2 | h_3 =>
    exact .noReg (by decide) fun d s => .immOnly (by decide) ⟨rfl, rfl⟩
  case h_4 | h_5 | h_6 =>
    exact .packetInd (by decide) fun _ => ⟨rfl, rfl⟩
  case h_7 => exact .undefined

/-! Opcode 0x18 -/

theorem DstOperand.wideBoth {op : BitVec 8} {off : BitVec 16} {imm next : Word32} {s : BitVec 4}
    {mk : Reg → Word32 → Word32 → Instr} (hs : s.toNat < 10)
    (h : ∀ r, LaidOut (mk r imm next) [⟨op, regBits r, s, 0, imm⟩, ⟨0, 0, 0, 0, next⟩]) :
    DstOperand op off imm [⟨0, 0, 0, 0, next⟩] s fun d => Fields.wideBoth ⟨op, d, s, off, imm⟩ next mk := by
  refine .fixed (off = 0) ?_
  rintro rfl
  exact .oneReg hs h

theorem DstOperand.wideOne {op : BitVec 8} {off : BitVec 16} {imm next : Word32} {s : BitVec 4}
    {mk : Reg → Word32 → Instr} (hs : s.toNat < 10)
    (h : ∀ r, LaidOut (mk r imm) [⟨op, regBits r, s, 0, imm⟩, ⟨0, 0, 0, 0, 0⟩]) :
    DstOperand op off imm [⟨0, 0, 0, 0, next⟩] s fun d => Fields.wideOne ⟨op, d, s, off, imm⟩ next mk := by
  refine .fixed (off = 0) ?_
  rintro rfl
  split
  next hnext =>
    subst hnext
    exact .oneReg hs h
  next => exact .error .nonZeroUnused (by decide)

theorem decodeWide_isRow (off : BitVec 16) (imm next : Word32) :
    IsRow 0x18 off imm [⟨0, 0, 0, 0, next⟩] fun d s => decodeWide ⟨0x18, d, s, off, imm⟩ next := by
  refine .oneDst (by decide) fun s => ?_
  unfold decodeWide
  dsimp only
  split
  case h_1 | h_3 | h_7 => exact .wideBoth (by decide) fun _ => ⟨rfl, rfl⟩
  case h_2 | h_4 | h_5 | h_6 => exact .wideOne (by decide) fun _ => ⟨rfl, rfl⟩
  case h_8 => exact .error .reserved (by decide)

theorem decodeFields_truncated {f : Fields} (hop : f.opcode = 0x18) : decodeFields f none = .error .truncated :=
  if_pos hop

theorem decodeFields_badSecondSlot {f g : Fields} (hop : f.opcode = 0x18)
    (hg : ¬ (g.opcode = 0 ∧ g.dst = 0 ∧ g.src = 0 ∧ g.offset = 0)) :
    decodeFields f (some g) = .error .badSecondSlot := by
  simp only [decodeFields, if_pos hop, decodeSecondSlot, if_neg hg]

theorem decodeFields_wide {f : Fields} (hop : f.opcode = 0x18) (n : Word32) :
    decodeFields f (some ⟨0, 0, 0, 0, n⟩) = decodeWide f n :=
  if_pos hop

/-! All of the decoder -/

/-- The slots an instruction of opcode `op` takes after its first. -/
def slotsAfter (op : BitVec 8) (next : Option Fields) : List Fields := if op = 0x18 then next.toList else []

theorem decodeFields_wide_isRow (off : BitVec 16) (imm : Word32) (next : Option Fields) :
    IsRow 0x18 off imm next.toList fun d s => decodeFields ⟨0x18, d, s, off, imm⟩ next := by
  cases next with
  | none =>
    simp only [decodeFields_truncated]
    exact .error .truncated (by decide) (.inl (by decide))
  | some g =>
    obtain ⟨op, d, s, o, n⟩ := g
    by_cases hg : op = 0 ∧ d = 0 ∧ s = 0 ∧ o = 0
    · obtain ⟨rfl, rfl, rfl, rfl⟩ := hg
      simp only [decodeFields_wide]
      exact decodeWide_isRow off imm n
    · have hbad (d' s' : BitVec 4) : decodeFields ⟨0x18, d', s', off, imm⟩ (some ⟨op, d, s, o, n⟩)
          = .error .badSecondSlot := decodeFields_badSecondSlot rfl hg
      simp only [hbad]
      exact .error .badSecondSlot (by decide) (.inl (by decide))

/-- Whatever the other fields of a slot and the slot after it, decoding treats the two register fields as a row does. -/
theorem decodeFields_isRow (op : BitVec 8) (off : BitVec 16) (imm : Word32) (next : Option Fields) :
    IsRow op off imm (slotsAfter op next) fun d s => decodeFields ⟨op, d, s, off, imm⟩ next := by
  by_cases hop : op = 0x18
  · subst hop
    exact decodeFields_wide_isRow off imm next
  · simp only [decodeFields, slotsAfter, if_neg hop]
    split
    · exact decodeLd_isRow op off imm
    · exact decodeLdx_isRow op off imm
    · exact decodeSt_isRow op off imm
    · exact decodeStx_isRow op off imm
    · exact decodeAlu_isRow op off imm
    · exact decodeJmp_isRow op off imm
    · exact decodeJmp32_isRow op off imm
    · exact decodeAlu64_isRow op off imm

/-- Settles O6: what a row accepts is laid out as the slots it was decoded from. -/
theorem encodeOfDecode : Obligations.EncodeOfDecode := by
  rintro ⟨op, d, s, off, imm⟩ next i h
  exact (decodeFields_isRow op off imm next).encodes h

/-- Settles O9: decoding looks at register numbers last, in every row. -/
theorem badRegisterOnlyAtTheEnd : Obligations.BadRegisterOnlyAtTheEnd := by
  rintro ⟨op, d, s, off, imm⟩ next
  exact (decodeFields_isRow op off imm next).registersLast d s

/-! Table O -/

/-- Fields with a given opcode that decode: all others 0, but for the width of a byte swap (rule R70). -/
def plainFields (op : BitVec 8) : Fields := ⟨op, 0, 0, 0, if op = 0xd4 ∨ op = 0xd7 ∨ op = 0xdc then 16 else 0⟩

theorem plainFields_decode : ∀ op ∈ Spec.definedOpcodes,
    (decodeFields (plainFields op) (some ⟨0, 0, 0, 0, 0⟩)).toBool = true := by
  decide

/-- Settles O7: a row accepts nothing at an opcode outside Table O, and each opcode of it decodes with plain fields. -/
theorem reservedOpcodes : Obligations.ReservedOpcodes := by
  refine ⟨?_, fun op hop => ?_, rfl⟩
  · rintro ⟨op, d, s, off, imm⟩ next hop
    exact (decodeFields_isRow op off imm next).reserved hop d s
  · have h := plainFields_decode op hop
    cases hd : decodeFields (plainFields op) (some ⟨0, 0, 0, 0, 0⟩) with
    | ok i => exact ⟨_, _, i, rfl, hd⟩
    | error e =>
      rw [hd] at h
      cases h

/-- Settles O8: a second slot is malformed, or is its `next_imm`, which four subtypes require to be 0. -/
theorem wideSecondSlot : Obligations.WideSecondSlot := by
  refine fun f hop => ⟨decodeFields_truncated hop, fun g => decodeFields_badSecondSlot hop, fun n hn hoff hsrc => ?_⟩
  rw [decodeFields_wide hop]
  have hone (mk : Reg → Word32 → Instr) : f.wideOne n mk = .error .nonZeroUnused := by
    simp only [Fields.wideOne, fixed, hoff, if_neg hn, decide_true, if_true]
  obtain h | h | h | h := hsrc
  all_goals
    simp only [decodeWide, h]
    exact hone _

end Sys2Proof
end

section
/-! Every instruction is decoded from its encoding (rules R62, R64, R65, R73). -/

namespace Sys2Proof

@[simp] theorem fixed_true (k : Decoded) : fixed true k = k := rfl

@[simp] theorem oneReg_regBits (r : Reg) (mk : Reg → Instr) : oneReg (regBits r) mk = .ok (mk r) := by
  simp only [oneReg, regOf_regBits]

@[simp] theorem twoRegs_regBits (r q : Reg) (mk : Reg → Reg → Instr) :
    twoRegs (regBits r) (regBits q) mk = .ok (mk r q) := by
  simp only [twoRegs, regOf_regBits]

/-- The slots of `i` decode to `i`: its one slot whatever follows, or its two slots. -/
def DecodesBack (i : Instr) : Prop :=
  (∃ f, encode i = [f] ∧ ∀ next, decodeFields f next = .ok i) ∨
    ∃ f g, encode i = [f, g] ∧ decodeFields f (some g) = .ok i

/-- Every instruction is decoded from its slots, by the row of its opcode and of its form. -/
theorem decodesBack (i : Instr) (hwf : i.wellFormed = true) : DecodesBack i := by
  cases i with
  | add32K _ _ | sub32K _ _ | mul32K _ _ | div32K _ _ | sdiv32K _ _ | or32K _ _ | and32K _ _ | lsh32K _ _
  | rsh32K _ _ | mod32K _ _ | smod32K _ _ | xor32K _ _ | mov32K _ _ | arsh32K _ _ | add64K _ _ | sub64K _ _
  | mul64K _ _ | div64K _ _ | sdiv64K _ _ | or64K _ _ | and64K _ _ | lsh64K _ _ | rsh64K _ _ | mod64K _ _
  | smod64K _ _ | xor64K _ _ | mov64K _ _ | arsh64K _ _ =>
    exact .inl ⟨_, rfl, fun _ => by simp [decodeFields, decodeAlu, decodeAlu64, Fields.arithK]⟩
  | add32X _ _ | sub32X _ _ | mul32X _ _ | div32X _ _ | sdiv32X _ _ | or32X _ _ | and32X _ _ | lsh32X _ _
  | rsh32X _ _ | mod32X _ _ | smod32X _ _ | xor32X _ _ | mov32X _ _ | movsx32_8 _ _ | movsx32_16 _ _ | arsh32X _ _
  | add64X _ _ | sub64X _ _ | mul64X _ _ | div64X _ _ | sdiv64X _ _ | or64X _ _ | and64X _ _ | lsh64X _ _
  | rsh64X _ _ | mod64X _ _ | smod64X _ _ | xor64X _ _ | mov64X _ _ | movsx64_8 _ _ | movsx64_16 _ _
  | movsx64_32 _ _ | arsh64X _ _ =>
    exact .inl ⟨_, rfl, fun _ => by simp [decodeFields, decodeAlu, decodeAlu64, Fields.arithX]⟩
  | neg32 _ | neg64 _ =>
    exact .inl ⟨_, rfl, fun _ => by simp [decodeFields, decodeAlu, decodeAlu64, Fields.unary]⟩
  | le16 _ | le32 _ | le64 _ | be16 _ | be32 _ | be64 _ | bswap16 _ | bswap32 _ | bswap64 _ =>
    exact .inl ⟨_, rfl, fun _ => by simp [decodeFields, decodeAlu, decodeAlu64, Fields.swap, Fields.unary]⟩
  | ja _ | exit =>
    exact .inl ⟨_, rfl, fun _ => by simp [decodeFields, decodeJmp]⟩
  | ja32 _ | callHelper _ | callLocal _ | callBtf _ | ldabsw _ | ldabsh _ | ldabsb _ =>
    exact .inl ⟨_, rfl, fun _ => by simp [decodeFields, decodeJmp, decodeJmp32, decodeLd, Fields.immOnly]⟩
  | jeq64K _ _ _ | jgt64K _ _ _ | jge64K _ _ _ | jset64K _ _ _ | jne64K _ _ _ | jsgt64K _ _ _ | jsge64K _ _ _
  | jlt64K _ _ _ | jle64K _ _ _ | jslt64K _ _ _ | jsle64K _ _ _ | jeq32K _ _ _ | jgt32K _ _ _ | jge32K _ _ _
  | jset32K _ _ _ | jne32K _ _ _ | jsgt32K _ _ _ | jsge32K _ _ _ | jlt32K _ _ _ | jle32K _ _ _ | jslt32K _ _ _
  | jsle32K _ _ _ =>
    exact .inl ⟨_, rfl, fun _ => by simp [decodeFields, decodeJmp, decodeJmp32, Fields.jumpK]⟩
  | jeq64X _ _ _ | jgt64X _ _ _ | jge64X _ _ _ | jset64X _ _ _ | jne64X _ _ _ | jsgt64X _ _ _ | jsge64X _ _ _
  | jlt64X _ _ _ | jle64X _ _ _ | jslt64X _ _ _ | jsle64X _ _ _ | jeq32X _ _ _ | jgt32X _ _ _ | jge32X _ _ _
  | jset32X _ _ _ | jne32X _ _ _ | jsgt32X _ _ _ | jsge32X _ _ _ | jlt32X _ _ _ | jle32X _ _ _ | jslt32X _ _ _
  | jsle32X _ _ _ =>
    exact .inl ⟨_, rfl, fun _ => by simp [decodeFields, decodeJmp, decodeJmp32, Fields.jumpX]⟩
  | ldxw _ _ _ | ldxh _ _ _ | ldxb _ _ _ | ldxdw _ _ _ | ldxsw _ _ _ | ldxsh _ _ _ | ldxsb _ _ _ | stxw _ _ _
  | stxh _ _ _ | stxb _ _ _ | stxdw _ _ _ | atomicAdd32 _ _ _ | atomicOr32 _ _ _ | atomicAnd32 _ _ _
  | atomicXor32 _ _ _ | atomicFetchAdd32 _ _ _ | atomicFetchOr32 _ _ _ | atomicFetchAnd32 _ _ _
  | atomicFetchXor32 _ _ _ | atomicXchg32 _ _ _ | atomicCmpxchg32 _ _ _ | atomicAdd64 _ _ _ | atomicOr64 _ _ _
  | atomicAnd64 _ _ _ | atomicXor64 _ _ _ | atomicFetchAdd64 _ _ _ | atomicFetchOr64 _ _ _ | atomicFetchAnd64 _ _ _
  | atomicFetchXor64 _ _ _ | atomicXchg64 _ _ _ | atomicCmpxchg64 _ _ _ =>
    exact .inl ⟨_, rfl, fun _ => by simp [decodeFields, decodeLdx, decodeStx, Fields.memX]⟩
  | stw _ _ _ | sth _ _ _ | stb _ _ _ | stdw _ _ _ =>
    exact .inl ⟨_, rfl, fun _ => by simp [decodeFields, decodeSt, Fields.memK]⟩
  | lddw _ _ _ | ldMapValFd _ _ _ | ldMapValIdx _ _ _ =>
    exact .inr ⟨_, _, rfl, (decodeFields_wide rfl _).trans (by simp [decodeWide, Fields.wideBoth])⟩
  | ldMapFd _ _ | ldVarAddr _ _ | ldCodeAddr _ _ | ldMapIdx _ _ =>
    exact .inr ⟨_, _, rfl, (decodeFields_wide rfl _).trans (by simp [decodeWide, Fields.wideOne])⟩
  | imm64SecondSlot _ => cases hwf
  | ldindw _ _ | ldindh _ _ | ldindb _ _ =>
    exact .inl ⟨_, rfl, fun _ => by simp [decodeFields, decodeLd, Fields.packetInd]⟩

/-- The slots of an instruction in either byte order decode to it, whatever slots follow. -/
theorem decodeProgram_encodeSlots (e : Endian) (i : Instr) (more : List Slot) (hwf : i.wellFormed = true) :
    decodeProgram e (encodeSlots e i ++ more) = .ok i := by
  unfold encodeSlots
  obtain ⟨f, henc, hdec⟩ | ⟨f, g, henc, hdec⟩ := decodesBack i hwf
  · rw [henc, decodeProgram_toSlot]
    exact hdec _
  · rw [henc, decodeProgram_toSlot]
    simpa using hdec

/-- Settles O5: the fields of an instruction decode to it, and its slots have those fields in either byte order. -/
theorem decodeOfEncode : Obligations.DecodeOfEncode := fun e i more hwf => decodeProgram_encodeSlots e i more hwf

end Sys2Proof
end

section
/-! Slots, fields and normalised words determine each other (rules R61, R62), and the words the spec writes out decode
as it says (rule R63). -/

namespace Sys2Proof

/-- The nibbles of a byte side by side are the byte. -/
theorem nibbles (b : BitVec 8) : b.extractLsb' 4 4 ++ b.extractLsb' 0 4 = b :=
  (extract_append b 0 4 4).trans BitVec.extractLsb'_eq_self

theorem bytes16_left (a b : BitVec 8) : (a ++ b).extractLsb' 8 8 = a := BitVec.extractLsb'_append_eq_left

theorem bytes16_right (a b : BitVec 8) : (a ++ b).extractLsb' 0 8 = b := BitVec.extractLsb'_append_eq_right

/-- A slice above the lower part of two put together is a slice of the upper part. -/
theorem extract_append_above {m n k l : Nat} {x : BitVec m} {y : BitVec n} {v : BitVec l} (hk : n ≤ k)
    (h : x.extractLsb' (k - n) l = v) : (x ++ y).extractLsb' k l = v :=
  (BitVec.extractLsb'_append_eq_of_le hk).trans h

/-- Each byte of four put together is read back. -/
theorem bytes32_append (a b c d : BitVec 8) :
    (a ++ b ++ c ++ d).extractLsb' 0 8 = d ∧ (a ++ b ++ c ++ d).extractLsb' 8 8 = c ∧
      (a ++ b ++ c ++ d).extractLsb' 16 8 = b ∧ (a ++ b ++ c ++ d).extractLsb' 24 8 = a := by
  have hb : (a ++ b ++ c).extractLsb' 8 8 = b := extract_append_above (by decide) (bytes16_right a b)
  have ha : (a ++ b ++ c).extractLsb' 16 8 = a := extract_append_above (by decide) (bytes16_left a b)
  exact ⟨BitVec.extractLsb'_append_eq_right,
    extract_append_above (by decide) BitVec.extractLsb'_append_eq_right,
    extract_append_above (by decide) hb, extract_append_above (by decide) ha⟩

/-- The slot that holds the fields of a slot is that slot, in either byte order (rule R62). -/
theorem Slot.toSlot_fields (e : Endian) (s : Slot) : (s.fields e).toSlot e = s := by
  obtain ⟨b0, b1, b2, b3, b4, b5, b6, b7⟩ := s
  cases e with
  | little =>
    obtain ⟨h4, h5, h6, h7⟩ := bytes32_append b7 b6 b5 b4
    simp only [Slot.fields, Fields.toSlot, nibbles, bytes16_left, bytes16_right, h4, h5, h6, h7]
  | big =>
    obtain ⟨h7, h6, h5, h4⟩ := bytes32_append b4 b5 b6 b7
    simp only [Slot.fields, Fields.toSlot, nibbles, bytes16_left, bytes16_right, h4, h5, h6, h7]

/-- The normalised word of the fields of a word is the word: the fields are adjacent slices of it. -/
theorem Fields.word_ofWord (w : BitVec 64) : (Fields.ofWord w).word = w := by
  have h1 := extract_append w 16 32 16
  have h2 := extract_append w 12 48 4
  have h3 := extract_append w 8 52 4
  have h4 := extract_append w 0 56 8
  simp only [Nat.reduceAdd, Nat.zero_add] at h1 h2 h3 h4
  simp only [Fields.word, Fields.ofWord, h1, h2, h3, h4, BitVec.extractLsb'_eq_self]

/-- The fields of a normalised word are the fields. -/
theorem Fields.ofWord_word (f : Fields) : Fields.ofWord f.word = f := by
  obtain ⟨op, d, s, off, imm⟩ := f
  have hs : (imm ++ off ++ s).extractLsb' 0 4 = s := BitVec.extractLsb'_append_eq_right
  have hoff : (imm ++ off ++ s).extractLsb' 4 16 = off :=
    extract_append_above (by decide) BitVec.extractLsb'_append_eq_right
  have himm : (imm ++ off ++ s).extractLsb' 20 32 = imm :=
    extract_append_above (by decide) BitVec.extractLsb'_append_eq_left
  have above {k l : Nat} {v : BitVec l} (hk : 12 ≤ k) (h : (imm ++ off ++ s).extractLsb' (k - 12) l = v) :
      (imm ++ off ++ s ++ d ++ op).extractLsb' k l = v :=
    extract_append_above (by omega) (extract_append_above (by omega) (by rwa [Nat.sub_sub]))
  rw [Fields.mk.injEq]
  exact ⟨BitVec.extractLsb'_append_eq_right, extract_append_above (by decide) BitVec.extractLsb'_append_eq_right,
    above (by decide) hs, above (by decide) hoff, above (by decide) himm⟩

/-- Settles O4: slices put together are the whole, and each part of a whole is read back. -/
theorem slotLayoutIsABijection : Obligations.SlotLayoutIsABijection :=
  ⟨Slot.toSlot_fields, Fields.fields_toSlot, Fields.word_ofWord, Fields.ofWord_word⟩

/-- Settles O3: each word is evaluated. -/
theorem decodingOfWrittenWords : Obligations.DecodingOfWrittenWords := by
  refine ⟨?_, ?_, ?_, ?_, ?_, ?_, ?_, ?_, ?_, ?_, ?_, ?_⟩ <;> rfl

end Sys2Proof
end

section
/-! The boundaries of a program are the linear sweep of rule R74. -/

namespace Sys2Proof.Machine

open Sys2Proof.Spec

theorem boundary_zero {p : List Slot} (h : 0 < p.length) : boundary p 0 = true := by
  cases p with
  | nil => cases h
  | cons => rfl

/-- The sweep of a program from one of its boundaries on goes on the sweep of the program. -/
theorem sweep_drop {p : List Slot} {n t : Nat} (hn : Sweep p n) (ht : Sweep (p.drop n) t) : Sweep p (n + t) := by
  induction ht with
  | start => exact hn
  | wide s _ hs hop ih => exact .wide s ih (by rwa [List.getElem?_drop] at hs) hop
  | basic s _ hs hop ih => exact .basic s ih (by rwa [List.getElem?_drop] at hs) hop

theorem sweep_cons_wide {first second : Slot} {rest : List Slot} {t : Nat} (hop : first.b0 = 0x18#8)
    (h : Sweep rest t) : Sweep (first :: second :: rest) (t + 2) :=
  Nat.add_comm t 2 ▸ sweep_drop (n := 2) (.wide first .start rfl hop) h

theorem sweep_cons_basic {first : Slot} {rest : List Slot} {t : Nat} (hop : first.b0 ≠ 0x18#8) (h : Sweep rest t) :
    Sweep (first :: rest) (t + 1) :=
  Nat.add_comm t 1 ▸ sweep_drop (n := 1) (.basic first .start rfl hop) h

/-- The sweep goes from a wide instruction to the slot after its second one, if the program has one. -/
theorem boundary_add_two (p : List Slot) (n : Nat) (sl : Slot) (hb : boundary p n = true) (hsl : p[n]? = some sl)
    (hop : sl.b0 = 0x18#8) (hlt : n + 2 < p.length) : boundary p (n + 2) = true := by
  induction p, n using boundary.induct with
  | case1 => cases hb
  | case2 first rest =>
    cases hsl
    cases rest with
    | nil => simp at hlt
    | cons second rest =>
      rw [boundary_wide second rest 0 hop]
      exact boundary_zero (by simpa using hlt)
  | case3 first n hwide => simp [boundary, hwide] at hb
  | case4 first hwide second rest => simp [boundary, hwide] at hb
  | case5 first hwide second rest n ih =>
    rw [boundary_wide second rest _ hwide] at hb ⊢
    exact ih hb hsl (by simp only [List.length_cons] at hlt; omega)
  | case6 first rest n hnarrow ih =>
    rw [boundary_narrow rest _ hnarrow] at hb ⊢
    exact ih hb hsl (by simp only [List.length_cons] at hlt; omega)

/-- What the sweep produces below the end of the program is a boundary. -/
theorem boundary_of_sweep {p : List Slot} {t : Nat} (h : Sweep p t) : t < p.length → boundary p t = true := by
  induction h with
  | start => exact boundary_zero
  | wide s _ hs hop ih =>
    obtain ⟨hlt, -⟩ := List.getElem?_eq_some_iff.1 hs
    exact boundary_add_two p _ s (ih hlt) hs hop
  | basic s _ hs hop ih =>
    obtain ⟨hlt, -⟩ := List.getElem?_eq_some_iff.1 hs
    intro hnext
    exact (boundary_succ p _ s (ih hlt) hs hop).resolve_right (by omega)

/-- A boundary is below the end of the program and the sweep produces it. -/
theorem sweep_of_boundary {p : List Slot} {t : Nat} (h : boundary p t = true) : t < p.length ∧ Sweep p t := by
  induction p, t using boundary.induct with
  | case1 => cases h
  | case2 first rest => exact ⟨by simp, .start⟩
  | case3 first n hwide => simp [boundary, hwide] at h
  | case4 first hwide second rest => simp [boundary, hwide] at h
  | case5 first hwide second rest n ih =>
    rw [boundary_wide second rest _ hwide] at h
    obtain ⟨hlt, hsweep⟩ := ih h
    exact ⟨by simpa using hlt, sweep_cons_wide hwide hsweep⟩
  | case6 first rest n hnarrow ih =>
    rw [boundary_narrow rest _ hnarrow] at h
    obtain ⟨hlt, hsweep⟩ := ih h
    exact ⟨by simpa using hlt, sweep_cons_basic hnarrow hsweep⟩

/-- A slot at which the sweep does not stop is the second of a wide instruction at which it does. -/
theorem second_of_not_boundary {p : List Slot} {t : Nat} (hlt : t < p.length) (h : boundary p t = false) :
    ∃ u w, Sweep p u ∧ p[u]? = some w ∧ w.b0 = 0x18#8 ∧ t = u + 1 := by
  induction p, t using boundary.induct with
  | case1 => cases hlt
  | case2 first rest => cases h
  | case3 first n hwide => simp at hlt
  | case4 first hwide second rest => exact ⟨0, first, .start, rfl, hwide, rfl⟩
  | case5 first hwide second rest n ih =>
    rw [boundary_wide second rest _ hwide] at h
    obtain ⟨u, w, hsweep, hw, hop, rfl⟩ := ih (by simpa using hlt) h
    exact ⟨u + 2, w, sweep_cons_wide hwide hsweep, by simpa using hw, hop, rfl⟩
  | case6 first rest n hnarrow ih =>
    rw [boundary_narrow rest _ hnarrow] at h
    obtain ⟨u, w, hsweep, hw, hop, rfl⟩ := ih (by simpa using hlt) h
    exact ⟨u + 1, w, sweep_cons_basic hnarrow hsweep, by simpa using hw, hop, rfl⟩

/-! Fetch, one equation for each of its answers (steps 1 to 6 of rule R73) -/

section Fetch

variable {s : State}

theorem State.fetch_of_not_fetchable (h : Params.fetchable s.params s.pc ≠ true) : s.fetch = .error (.badPc s.pc) :=
  if_neg h

theorem State.fetch_of_illegal (h : Params.fetchable s.params s.pc = true) {r : IllegalReason}
    (hd : decodeProgram s.params.hostEndian (s.params.program.drop s.pc.toNat) = .error r) :
    s.fetch = .error (.illegalInstruction s.pc r) := by
  simp only [State.fetch, if_pos h, hd]

theorem State.fetch_of_decoded (h : Params.fetchable s.params s.pc = true) {i : Instr}
    (hd : decodeProgram s.params.hostEndian (s.params.program.drop s.pc.toNat) = .ok i) :
    s.fetch = if i.group ∈ s.params.groups then .ok i else .error (.unsupportedGroup s.pc i.group) := by
  simp only [State.fetch, if_pos h, hd]

theorem Params.fetchable_of_boundary {p : Params} {pc : Int} (hpc : 0 ≤ pc) (hb : boundary p.program pc.toNat = true) :
    Params.fetchable p pc = true := by
  simp [Params.fetchable, hpc, hb]

theorem Params.not_fetchable {p : Params} {pc : Int} (h : pc < 0 ∨ boundary p.program pc.toNat = false) :
    Params.fetchable p pc ≠ true := by
  intro hf
  obtain ⟨n, rfl, hb⟩ := (Params.fetchable_iff p pc).1 hf
  obtain hneg | hnot := h
  · omega
  · rw [Int.toNat_natCast, hb] at hnot
    cases hnot

end Fetch

/-- Settles O10: boundaries and the sweep, each from the other by induction, and the fetch elsewhere. -/
theorem boundariesAreTheLinearSweep : Obligations.BoundariesAreTheLinearSweep := by
  refine ⟨fun p t => ⟨sweep_of_boundary, fun ⟨hlt, h⟩ => boundary_of_sweep h hlt⟩,
    fun p t => second_of_not_boundary, fun s h => State.fetch_of_not_fetchable (Params.not_fetchable ?_)⟩
  obtain hneg | hend | hnot := h
  · exact .inl hneg
  · refine .inr (Bool.eq_false_iff.2 fun hb => ?_)
    obtain ⟨hlt, -⟩ := sweep_of_boundary hb
    omega
  · exact .inr hnot

end Sys2Proof.Machine
end

section
/-! The faults of fetch and decode and the execution of what is decoded, as answers of a step (rules R73, R409, R420),
and the placing of an instruction where the next step fetches it (rule R452, log entry 5). -/

namespace Sys2Proof.Machine

open Sys2Proof.Spec

/-- What slots decode to is an instruction. -/
theorem decodeProgram_wellFormed {e : Endian} {slots : List Slot} {i : Instr} (h : decodeProgram e slots = .ok i) :
    i.wellFormed = true := by
  obtain ⟨sl, next, -, hd⟩ := decodeProgram_drop_ok (n := 0) h
  obtain ⟨hwf, -⟩ := encodeOfDecode _ _ _ hd
  exact hwf

/-- Settles O11. -/
theorem stepRunsTheDecodedInstruction : Obligations.StepRunsTheDecodedInstruction := by
  intro s i hr hg hf hd hi
  obtain ⟨hok, -⟩ := step_of_fetch hr hg
  exact ⟨decodeProgram_wellFormed hd, hok i ((State.fetch_of_decoded hf hd).trans (if_pos hi))⟩

/-- Settles O12: each fault of the fetch is the step's. -/
theorem faultsOfFetchAndDecode : Obligations.FaultsOfFetchAndDecode := by
  intro s hr hg
  obtain ⟨-, herror⟩ := step_of_fetch hr hg
  refine ⟨fun h => herror _ (State.fetch_of_not_fetchable (Params.not_fetchable h)), fun hpc hb => ?_⟩
  have hf := Params.fetchable_of_boundary hpc hb
  exact ⟨fun r hd => herror _ (State.fetch_of_illegal hf hd),
    fun i hd hi => herror _ ((State.fetch_of_decoded hf hd).trans (if_neg hi))⟩

/-- The fields of the two slots of a table word. -/
def wordFields (nbits w : Nat) : Fields × Fields :=
  let v := BitVec.ofNat 128 (w % 2 ^ nbits)
  (Fields.ofWord (v.extractLsb' 0 64), Fields.ofWord (v.extractLsb' 64 64))

theorem withFetchWord_eq (s : State) (nbits w : Nat) : s.withFetchWord nbits w =
    s.placeInstr ((wordFields nbits w).1.toSlot s.params.hostEndian)
      ((wordFields nbits w).2.toSlot s.params.hostEndian) :=
  rfl

/-- A table word decodes as its two slots do, in either byte order and whatever slots follow. -/
theorem decodeProgram_of_tableWord {nbits w : Nat} {i : Instr} (h : decodeTableWord nbits w = some i) (e : Endian)
    (more : List Slot) :
    decodeProgram e ((wordFields nbits w).1.toSlot e :: (wordFields nbits w).2.toSlot e :: more) = .ok i := by
  have hfields (e : Endian) (more : List Slot) :
      decodeProgram e ((wordFields nbits w).1.toSlot e :: (wordFields nbits w).2.toSlot e :: more)
        = decodeFields (wordFields nbits w).1 (some (wordFields nbits w).2) := by
    simp [decodeProgram, decodeSlots]
  rw [hfields, ← hfields .little []]
  unfold decodeTableWord at h
  dsimp only at h
  split at h
  next j hj =>
    cases h
    exact hj
  next => cases h

theorem drop_placeSlots {program : List Slot} {t : Nat} (ht : t ≤ program.length) (a b : Slot) :
    (placeSlots program t a b).drop t = a :: b :: program.drop (t + 2) := by
  rw [placeSlots, List.drop_left' (List.length_take_of_le ht)]

/-- The groups of a machine made ready to run: its own where they are admissible, else those of the reset state. -/
def readyGroups (gs : List Group) : List Group := if admissible gs then gs else Params.default.groups

theorem readyGroups_of_admissible {gs : List Group} (h : AdmissibleGroups gs) : readyGroups gs = gs :=
  if_pos ((admissible_iff gs).2 h)

theorem admissible_readyGroups (gs : List Group) : AdmissibleGroups (readyGroups gs) := by
  unfold readyGroups
  split
  next h => exact (admissible_iff gs).1 h
  next => decide

/-- What placing two slots does: they are what the program holds from the pc on, at a boundary, the machine is ready to
run, and all else is as it was. -/
theorem State.placeInstr_cases (s : State) (a b : Slot) : ∃ (pc : Int) (program rest : List Slot),
    s.placeInstr a b = { s with
      status := .running
      pc := pc
      params := { s.params with groups := readyGroups s.params.groups, program := program } } ∧
    0 ≤ pc ∧ boundary program pc.toNat = true ∧ program.drop pc.toNat = a :: b :: rest := by
  unfold State.placeInstr
  dsimp only
  split
  next here =>
    simp only [Bool.and_eq_true, decide_eq_true_eq] at here
    obtain ⟨⟨hpc, ht⟩, hb⟩ := here
    exact ⟨s.pc, _, _, rfl, hpc, hb, drop_placeSlots ht a b⟩
  next => exact ⟨0, [a, b], [], rfl, Int.le_refl 0, rfl, rfl⟩

/-- Settles O25: the placed slots stand at a boundary and decode as the table word does. -/
theorem placedInstructionIsFetched : Obligations.PlacedInstructionIsFetched := by
  intro s nbits w i hw
  rw [withFetchWord_eq]
  obtain ⟨pc, program, rest, hplaced, hpc, hb, hdrop⟩ := s.placeInstr_cases
    ((wordFields nbits w).1.toSlot s.params.hostEndian) ((wordFields nbits w).2.toSlot s.params.hostEndian)
  rw [hplaced]
  refine ⟨rfl, rfl, rfl, rfl, rfl, rfl, readyGroups_of_admissible, admissible_readyGroups _, ?_⟩
  refine State.fetch_of_decoded (Params.fetchable_of_boundary hpc hb) ?_
  exact hdrop ▸ decodeProgram_of_tableWord hw s.params.hostEndian rest

end Sys2Proof.Machine
end

section
/-! The forms of the arithmetic instructions: the encoding of an instruction of one slot, what a form answers for the
registers it reads, and that such a form meets its statement whatever its operation (rules R62, R73, R100, R140, R408).
The operand width is 32 or 64. -/

namespace Sys2Proof.Machine

open Sys2Proof.Spec

/-- An instruction of one slot is decoded from its fields alone, and fetched where they stand in the program. -/
theorem encoded_of_encode {i : Instr} {f : Fields} {g : Group} (hwf : i.wellFormed = true) (henc : encode i = [f])
    (hg : i.group = g) : Encoded i f g := by
  refine ⟨fun h next => ⟨fun hd => ?_, ?_⟩, hg, fun s rest hpc hdrop => ?_⟩
  · obtain ⟨-, hlaid⟩ := encodeOfDecode h next i hd
    rw [henc] at hlaid
    exact (List.cons.inj hlaid).1.symm
  · rintro rfl
    obtain ⟨f', henc', hdec⟩ | ⟨f', f'', henc', -⟩ := decodesBack i hwf
    · cases henc.symm.trans henc'
      exact hdec next
    · cases henc.symm.trans henc'
  · have hdec := decodeProgram_encodeSlots s.params.hostEndian i rest hwf
    simp only [encodeSlots, henc, List.map_cons, List.map_nil, List.cons_append, List.nil_append] at hdec
    rw [State.fetch_of_decoded hpc (hdrop ▸ hdec), hg]

section Forms

variable {w : Nat} {op : BitVec 8} {off : BitVec 16} {g : Group}

/-- A K form that computes `f` of `dst` and `imm`. -/
theorem arithK_of_exec {mk : Reg → Word32 → Instr} {R : BitVec w → BitVec w → BitVec w → Prop}
    {f : BitVec w → BitVec w → BitVec w}
    (henc : ∀ dst imm, Encoded (mk dst imm) ⟨op, regBits dst, 0, off, imm⟩ g)
    (hexec : ∀ dst imm s, exec (mk dst imm) s
      = s.withReg dst fun a => s.retire dst ((f (a.setWidth w) (imm.signExtend w)).setWidth 64))
    (hR : ∀ a b, R a b (f a b)) : ArithK w mk op off g R := by
  refine fun dst imm => ⟨henc dst imm, fun s => ⟨fun a ha => ⟨_, hR _ _, ?_⟩, fun hnone => ?_⟩⟩
  · exact (hexec dst imm s).trans (s.withReg_value dst _ a ha)
  · exact (hexec dst imm s).trans (s.withReg_noValue dst _ hnone)

/-- An X form that computes `f` of `dst` and `src`. -/
theorem arithX_of_exec {mk : Reg → Reg → Instr} {R : BitVec w → BitVec w → BitVec w → Prop}
    {f : BitVec w → BitVec w → BitVec w}
    (henc : ∀ dst src, Encoded (mk dst src) ⟨op, regBits dst, regBits src, off, 0⟩ g)
    (hexec : ∀ dst src s, exec (mk dst src) s = s.withReg dst fun a => s.withReg src fun b =>
      s.retire dst ((f (a.setWidth w) (b.setWidth w)).setWidth 64))
    (hR : ∀ a b, R a b (f a b)) : ArithX w mk op off g R := by
  refine fun dst src => ⟨henc dst src, fun s =>
    ⟨fun a b ha hb => ⟨_, hR _ _, ?_⟩, fun hnone => ?_, fun hsome hnone => ?_⟩⟩
  · exact (hexec dst src s).trans ((s.withReg_value dst _ a ha).trans (s.withReg_value src _ b hb))
  · exact (hexec dst src s).trans (s.withReg_noValue dst _ hnone)
  · obtain ⟨a, ha⟩ := Option.ne_none_iff_exists'.1 hsome
    exact (hexec dst src s).trans ((s.withReg_value dst _ a ha).trans (s.withReg_noValue src _ hnone))

/-- A form that computes `f` of `dst` alone. -/
theorem unary_of_exec {mk : Reg → Instr} {imm : Word32} {R : Endian → BitVec w → BitVec w → Prop}
    {f : Endian → BitVec w → BitVec w}
    (henc : ∀ dst, Encoded (mk dst) ⟨op, regBits dst, 0, 0, imm⟩ g)
    (hexec : ∀ dst s, exec (mk dst) s
      = s.withReg dst fun a => s.retire dst ((f s.params.hostEndian (a.setWidth w)).setWidth 64))
    (hR : ∀ e a, R e a (f e a)) : Unary w mk op imm g R := by
  refine fun dst => ⟨henc dst, fun s => ⟨fun a ha => ⟨_, hR _ _, ?_⟩, fun hnone => ?_⟩⟩
  · exact (hexec dst s).trans (s.withReg_value dst _ a ha)
  · exact (hexec dst s).trans (s.withReg_noValue dst _ hnone)

/-- A K form that writes `f` of `imm`. -/
theorem moveK_of_exec {mk : Reg → Word32 → Instr} {R : BitVec w → BitVec w → Prop} {f : BitVec w → BitVec w}
    (henc : ∀ dst imm, Encoded (mk dst imm) ⟨op, regBits dst, 0, 0, imm⟩ g)
    (hexec : ∀ dst imm s, exec (mk dst imm) s = s.retire dst ((f (imm.signExtend w)).setWidth 64))
    (hR : ∀ b, R b (f b)) : MoveK w mk op g R :=
  fun dst imm => ⟨henc dst imm, fun s => ⟨_, hR _, hexec dst imm s⟩⟩

/-- An X form that writes `f` of `src`. -/
theorem moveX_of_exec {mk : Reg → Reg → Instr} {R : BitVec w → BitVec w → Prop} {f : BitVec w → BitVec w}
    (henc : ∀ dst src, Encoded (mk dst src) ⟨op, regBits dst, regBits src, off, 0⟩ g)
    (hexec : ∀ dst src s, exec (mk dst src) s
      = s.withReg src fun b => s.retire dst ((f (b.setWidth w)).setWidth 64))
    (hR : ∀ b, R b (f b)) : MoveX w mk op off g R := by
  refine fun dst src => ⟨henc dst src, fun s => ⟨fun b hb => ⟨_, hR _, ?_⟩, fun hnone => ?_⟩⟩
  · exact (hexec dst src s).trans (s.withReg_value src _ b hb)
  · exact (hexec dst src s).trans (s.withReg_noValue src _ hnone)

end Forms

end Sys2Proof.Machine
end

section
/-! What the arithmetic of the instructions computes, in integers and in bits, for every operand width (rules R102 to
R126, R141 to R165). -/

namespace Sys2Proof.Machine

section Arithmetic

variable {n : Nat} (a b : BitVec n)

/-! Sum, difference, product and negation -/

theorem Alu.toNat_add : (Alu.add a b).toNat = (a.toNat + b.toNat) % 2 ^ n := BitVec.toNat_add a b

theorem Alu.toNat_sub : (Alu.sub a b).toNat = (2 ^ n + a.toNat - b.toNat) % 2 ^ n := by
  have hb := b.isLt
  rw [Alu.sub, BitVec.toNat_sub]
  congr 1
  omega

theorem Alu.toNat_mul : (Alu.mul a b).toNat = a.toNat * b.toNat % 2 ^ n := BitVec.toNat_mul a b

theorem Alu.toNat_neg : (Alu.neg a).toNat = (2 ^ n - a.toNat) % 2 ^ n := BitVec.toNat_neg a

/-! A zero divisor, read as a number -/

theorem toNat_eq_zero_iff : b.toNat = 0 ↔ b = 0#n := by
  rw [← BitVec.toNat_inj, BitVec.toNat_ofNat, Nat.zero_mod]

theorem toInt_eq_zero_iff : b.toInt = 0 ↔ b = 0#n := by
  rw [← BitVec.toInt_inj, BitVec.toInt_zero]

/-! Division and remainder (rules R108 to R111, R121 to R124) -/

theorem Alu.toNat_div : (Alu.div a b).toNat = if b.toNat = 0 then 0 else a.toNat / b.toNat := by
  have hlt : a.toNat / b.toNat < 2 ^ n := Nat.lt_of_le_of_lt (Nat.div_le_self _ _) a.isLt
  unfold Alu.div
  by_cases hb : b = 0#n
  · simp [hb]
  · rw [if_neg hb, if_neg (mt (toNat_eq_zero_iff b).1 hb), BitVec.toNat_ofNat, Nat.mod_eq_of_lt hlt]

theorem Alu.toNat_mod : (Alu.mod a b).toNat = if b.toNat = 0 then a.toNat else a.toNat % b.toNat := by
  have hlt : a.toNat % b.toNat < 2 ^ n := Nat.lt_of_le_of_lt (Nat.mod_le _ _) a.isLt
  unfold Alu.mod
  by_cases hb : b = 0#n
  · simp [hb]
  · rw [if_neg hb, if_neg (mt (toNat_eq_zero_iff b).1 hb), BitVec.toNat_ofNat, Nat.mod_eq_of_lt hlt]

/-- The quotient is wrapped: the most negative number over -1 leaves the range. -/
theorem Alu.sdiv_cases :
    if b.toInt = 0 then (Alu.sdiv a b).toNat = 0 else Alu.sdiv a b = BitVec.ofInt n (a.toInt.tdiv b.toInt) := by
  unfold Alu.sdiv
  by_cases hb : b = 0#n
  · simp [hb]
  · rw [if_neg (mt (toInt_eq_zero_iff b).1 hb), if_neg hb]

/-- The remainder is never wrapped: it is that of the signed remainder of bit vectors. -/
theorem Alu.toInt_smod :
    (Alu.smod a b).toInt = if b.toInt = 0 then a.toInt else a.toInt.tmod b.toInt := by
  unfold Alu.smod
  by_cases hb : b = 0#n
  · simp [hb]
  · rw [if_neg (mt (toInt_eq_zero_iff b).1 hb), if_neg hb, ← BitVec.toInt_srem, BitVec.ofInt_toInt]

/-! Bits, and sign extension -/

theorem Alu.getLsbD_or {k : Nat} : (Alu.or a b).getLsbD k = (a.getLsbD k || b.getLsbD k) := BitVec.getLsbD_or

theorem Alu.getLsbD_and {k : Nat} : (Alu.and a b).getLsbD k = (a.getLsbD k && b.getLsbD k) := BitVec.getLsbD_and

theorem Alu.getLsbD_xor {k : Nat} : (Alu.xor a b).getLsbD k = (a.getLsbD k ^^ b.getLsbD k) := BitVec.getLsbD_xor

/-- MOVSX keeps the signed number in the low bits (rules R129, R168). -/
theorem toInt_sextLow {k : Nat} (h : k ≤ n) : (sextLow k b).toInt = (b.setWidth k).toInt :=
  BitVec.toInt_signExtend_of_le h

end Arithmetic

/-! The shifts of class ALU (rules R116 to R119, R131, R132) -/

/-- The shift amount is the operand modulo 32: its low 5 bits. -/
theorem shiftAmount32_eq (b : Word32) : shiftAmount32 b = b.toNat % 32 := by
  simp [shiftAmount32, BitVec.extractLsb'_toNat]

theorem Alu.toNat_lsh32 (a b : Word32) : (Alu.lsh32 a b).toNat = a.toNat * 2 ^ (b.toNat % 32) % 2 ^ 32 := by
  rw [Alu.lsh32, BitVec.toNat_shiftLeft, Nat.shiftLeft_eq, shiftAmount32_eq]

theorem Alu.toNat_rsh32 (a b : Word32) : (Alu.rsh32 a b).toNat = a.toNat / 2 ^ (b.toNat % 32) := by
  rw [Alu.rsh32, BitVec.toNat_ushiftRight, Nat.shiftRight_eq_div_pow, shiftAmount32_eq]

theorem Alu.toInt_arsh32 (a b : Word32) : (Alu.arsh32 a b).toInt = a.toInt / 2 ^ (b.toNat % 32) := by
  rw [Alu.arsh32, BitVec.toInt_sshiftRight, Int.shiftRight_eq_div_pow, shiftAmount32_eq]
  norm_cast

end Sys2Proof.Machine
end

section
/-! The instructions of class ALU (rules R100 to R132): each is one of the forms, with its operation. -/

namespace Sys2Proof.Machine

open Sys2Proof.Spec

section Forms

variable {op : BitVec 8} {off : BitVec 16} {g : Group} {R : Word32 → Word32 → Word32 → Prop}
  {f : Word32 → Word32 → Word32}

/-- Sign extension of `imm` to its own width is `imm`, so `alu32K` is the K form at width 32. -/
theorem arithK_of_alu32K {mk : Reg → Word32 → Instr}
    (hR : ∀ a b, R a b (f a b))
    (hexec : ∀ dst imm s, exec (mk dst imm) s = alu32K f dst imm s)
    (henc : ∀ dst imm, Encoded (mk dst imm) ⟨op, regBits dst, 0, off, imm⟩ g) : ArithK 32 mk op off g R := by
  refine arithK_of_exec henc (fun dst imm s => ?_) hR
  rw [hexec, BitVec.signExtend_eq]
  rfl

theorem arithX_of_alu32X {mk : Reg → Reg → Instr}
    (hR : ∀ a b, R a b (f a b))
    (hexec : ∀ dst src s, exec (mk dst src) s = alu32X f dst src s)
    (henc : ∀ dst src, Encoded (mk dst src) ⟨op, regBits dst, regBits src, off, 0⟩ g) : ArithX 32 mk op off g R :=
  arithX_of_exec henc hexec hR

end Forms

/-- Settles O26: the operations are those of bit vectors, whose value is taken modulo 2^32. -/
theorem alu32AddSubMulNeg : Obligations.Alu32AddSubMulNeg :=
  ⟨arithK_of_alu32K Alu.toNat_add (fun _ _ _ => rfl) fun _ _ => encoded_of_encode rfl rfl rfl,
    arithX_of_alu32X Alu.toNat_add (fun _ _ _ => rfl) fun _ _ => encoded_of_encode rfl rfl rfl,
    arithK_of_alu32K Alu.toNat_sub (fun _ _ _ => rfl) fun _ _ => encoded_of_encode rfl rfl rfl,
    arithX_of_alu32X Alu.toNat_sub (fun _ _ _ => rfl) fun _ _ => encoded_of_encode rfl rfl rfl,
    arithK_of_alu32K Alu.toNat_mul (fun _ _ _ => rfl) fun _ _ => encoded_of_encode rfl rfl rfl,
    arithX_of_alu32X Alu.toNat_mul (fun _ _ _ => rfl) fun _ _ => encoded_of_encode rfl rfl rfl,
    unary_of_exec (f := fun _ => Alu.neg) (fun _ => encoded_of_encode rfl rfl rfl) (fun _ _ => rfl)
      fun _ => Alu.toNat_neg⟩

/-- Settles O27: only a signed quotient can leave the range, and the zero divisor is a case of each operation. -/
theorem alu32DivMod : Obligations.Alu32DivMod :=
  ⟨arithK_of_alu32K Alu.toNat_div (fun _ _ _ => rfl) fun _ _ => encoded_of_encode rfl rfl rfl,
    arithX_of_alu32X Alu.toNat_div (fun _ _ _ => rfl) fun _ _ => encoded_of_encode rfl rfl rfl,
    arithK_of_alu32K Alu.sdiv_cases (fun _ _ _ => rfl) fun _ _ => encoded_of_encode rfl rfl rfl,
    arithX_of_alu32X Alu.sdiv_cases (fun _ _ _ => rfl) fun _ _ => encoded_of_encode rfl rfl rfl,
    arithK_of_alu32K Alu.toNat_mod (fun _ _ _ => rfl) fun _ _ => encoded_of_encode rfl rfl rfl,
    arithX_of_alu32X Alu.toNat_mod (fun _ _ _ => rfl) fun _ _ => encoded_of_encode rfl rfl rfl,
    arithK_of_alu32K Alu.toInt_smod (fun _ _ _ => rfl) fun _ _ => encoded_of_encode rfl rfl rfl,
    arithX_of_alu32X Alu.toInt_smod (fun _ _ _ => rfl) fun _ _ => encoded_of_encode rfl rfl rfl⟩

/-- Settles O28: each bit of the result is the operation of the two bits. -/
theorem alu32Logic : Obligations.Alu32Logic :=
  ⟨arithK_of_alu32K (fun a b _ _ => Alu.getLsbD_or a b) (fun _ _ _ => rfl) fun _ _ => encoded_of_encode rfl rfl rfl,
    arithX_of_alu32X (fun a b _ _ => Alu.getLsbD_or a b) (fun _ _ _ => rfl) fun _ _ => encoded_of_encode rfl rfl rfl,
    arithK_of_alu32K (fun a b _ _ => Alu.getLsbD_and a b) (fun _ _ _ => rfl) fun _ _ => encoded_of_encode rfl rfl rfl,
    arithX_of_alu32X (fun a b _ _ => Alu.getLsbD_and a b) (fun _ _ _ => rfl) fun _ _ => encoded_of_encode rfl rfl rfl,
    arithK_of_alu32K (fun a b _ _ => Alu.getLsbD_xor a b) (fun _ _ _ => rfl) fun _ _ => encoded_of_encode rfl rfl rfl,
    arithX_of_alu32X (fun a b _ _ => Alu.getLsbD_xor a b) (fun _ _ _ => rfl) fun _ _ => encoded_of_encode rfl rfl rfl⟩

/-- Settles O29: the shift amount is taken modulo 32, and a move reads its source alone. -/
theorem alu32ShiftMove : Obligations.Alu32ShiftMove :=
  ⟨arithK_of_alu32K Alu.toNat_lsh32 (fun _ _ _ => rfl) fun _ _ => encoded_of_encode rfl rfl rfl,
    arithX_of_alu32X Alu.toNat_lsh32 (fun _ _ _ => rfl) fun _ _ => encoded_of_encode rfl rfl rfl,
    arithK_of_alu32K Alu.toNat_rsh32 (fun _ _ _ => rfl) fun _ _ => encoded_of_encode rfl rfl rfl,
    arithX_of_alu32X Alu.toNat_rsh32 (fun _ _ _ => rfl) fun _ _ => encoded_of_encode rfl rfl rfl,
    arithK_of_alu32K Alu.toInt_arsh32 (fun _ _ _ => rfl) fun _ _ => encoded_of_encode rfl rfl rfl,
    arithX_of_alu32X Alu.toInt_arsh32 (fun _ _ _ => rfl) fun _ _ => encoded_of_encode rfl rfl rfl,
    moveK_of_exec (f := id) (fun _ _ => encoded_of_encode rfl rfl rfl)
      (fun _ imm _ => by rw [BitVec.signExtend_eq]; rfl) fun _ => rfl,
    moveX_of_exec (f := id) (fun _ _ => encoded_of_encode rfl rfl rfl) (fun _ _ _ => rfl) fun _ => rfl,
    moveX_of_exec (f := sextLow 8) (fun _ _ => encoded_of_encode rfl rfl rfl) (fun _ _ _ => rfl)
      fun b => toInt_sextLow b (by decide),
    moveX_of_exec (f := sextLow 16) (fun _ _ => encoded_of_encode rfl rfl rfl) (fun _ _ _ => rfl)
      fun b => toInt_sextLow b (by decide)⟩

end Sys2Proof.Machine
end

section
/-! The instructions of class ALU64 (rules R140 to R172): each is one of the forms at width 64, with its operation. -/

namespace Sys2Proof.Machine

open Sys2Proof.Spec

/-! The shifts of class ALU64 (rules R155 to R158, R171, R172) -/

/-- The shift amount is the operand modulo 64: its low 6 bits. -/
theorem shiftAmount64_eq (b : Word) : shiftAmount64 b = b.toNat % 64 := by
  simp [shiftAmount64, BitVec.extractLsb'_toNat]

theorem Alu.toNat_lsh64 (a b : Word) : (Alu.lsh64 a b).toNat = a.toNat * 2 ^ (b.toNat % 64) % 2 ^ 64 := by
  rw [Alu.lsh64, BitVec.toNat_shiftLeft, Nat.shiftLeft_eq, shiftAmount64_eq]

theorem Alu.toNat_rsh64 (a b : Word) : (Alu.rsh64 a b).toNat = a.toNat / 2 ^ (b.toNat % 64) := by
  rw [Alu.rsh64, BitVec.toNat_ushiftRight, Nat.shiftRight_eq_div_pow, shiftAmount64_eq]

theorem Alu.toInt_arsh64 (a b : Word) : (Alu.arsh64 a b).toInt = a.toInt / 2 ^ (b.toNat % 64) := by
  rw [Alu.arsh64, BitVec.toInt_sshiftRight, Int.shiftRight_eq_div_pow, shiftAmount64_eq]
  norm_cast

/-! The forms at width 64: a register is read and written whole. That an instruction is dispatched to its operation
and laid out in its one slot is read off the definitions, so each form leaves both to evaluation. -/

section Forms

variable {op : BitVec 8} {off : BitVec 16} {g : Group}

theorem arithK_of_alu64K {mk : Reg → Word32 → Instr} {R : Word → Word → Word → Prop} {f : Word → Word → Word}
    (hR : ∀ a b, R a b (f a b))
    (hexec : ∀ dst imm s, exec (mk dst imm) s = alu64K f dst imm s := by intros; rfl)
    (henc : ∀ dst imm, Encoded (mk dst imm) ⟨op, regBits dst, 0, off, imm⟩ g := by
      exact fun _ _ => encoded_of_encode rfl rfl rfl) : ArithK 64 mk op off g R := by
  refine arithK_of_exec henc (fun dst imm s => ?_) hR
  simp only [hexec, alu64K, sextImm, BitVec.setWidth_eq]

theorem arithX_of_alu64X {mk : Reg → Reg → Instr} {R : Word → Word → Word → Prop} {f : Word → Word → Word}
    (hR : ∀ a b, R a b (f a b))
    (hexec : ∀ dst src s, exec (mk dst src) s = alu64X f dst src s := by intros; rfl)
    (henc : ∀ dst src, Encoded (mk dst src) ⟨op, regBits dst, regBits src, off, 0⟩ g := by
      exact fun _ _ => encoded_of_encode rfl rfl rfl) : ArithX 64 mk op off g R := by
  refine arithX_of_exec henc (fun dst src s => ?_) hR
  simp only [hexec, alu64X, BitVec.setWidth_eq]

/-- A move that writes `f` of the whole of `src`. -/
theorem moveX_of_exec64 {mk : Reg → Reg → Instr} {R : Word → Word → Prop} {f : Word → Word}
    (hR : ∀ b, R b (f b))
    (hexec : ∀ dst src s, exec (mk dst src) s = s.withReg src fun b => s.retire dst (f b) := by intros; rfl)
    (henc : ∀ dst src, Encoded (mk dst src) ⟨op, regBits dst, regBits src, off, 0⟩ g := by
      exact fun _ _ => encoded_of_encode rfl rfl rfl) : MoveX 64 mk op off g R := by
  refine moveX_of_exec henc (fun dst src s => ?_) hR
  simp only [hexec, BitVec.setWidth_eq]

end Forms

/-- NEG64 negates the whole of `dst` (rule R159). -/
theorem exec_neg64 (dst : Reg) (s : State) :
    exec (.neg64 dst) s = s.withReg dst fun a => s.retire dst ((Alu.neg (a.setWidth 64)).setWidth 64) := by
  simp only [BitVec.setWidth_eq]
  rfl

/-- MOV64_K writes `imm` sign extended (rule R166). -/
theorem exec_mov64K (dst : Reg) (imm : Word32) (s : State) :
    exec (.mov64K dst imm) s = s.retire dst ((imm.signExtend 64).setWidth 64) := by
  rw [BitVec.setWidth_eq]
  rfl

/-- Settles O30: the operations are those of bit vectors, whose value is taken modulo 2^64. -/
theorem alu64AddSubMulNeg : Obligations.Alu64AddSubMulNeg :=
  ⟨arithK_of_alu64K Alu.toNat_add, arithX_of_alu64X Alu.toNat_add,
    arithK_of_alu64K Alu.toNat_sub, arithX_of_alu64X Alu.toNat_sub,
    arithK_of_alu64K Alu.toNat_mul, arithX_of_alu64X Alu.toNat_mul,
    unary_of_exec (f := fun _ => Alu.neg) (fun _ => encoded_of_encode rfl rfl rfl) exec_neg64 fun _ => Alu.toNat_neg⟩

/-- Settles O31: only a signed quotient can leave the range, and the zero divisor is a case of each operation. -/
theorem alu64DivMod : Obligations.Alu64DivMod :=
  ⟨arithK_of_alu64K Alu.toNat_div, arithX_of_alu64X Alu.toNat_div,
    arithK_of_alu64K Alu.sdiv_cases, arithX_of_alu64X Alu.sdiv_cases,
    arithK_of_alu64K Alu.toNat_mod, arithX_of_alu64X Alu.toNat_mod,
    arithK_of_alu64K Alu.toInt_smod, arithX_of_alu64X Alu.toInt_smod⟩

/-- Settles O32: each bit of the result is the operation of the two bits. -/
theorem alu64Logic : Obligations.Alu64Logic :=
  ⟨arithK_of_alu64K fun a b _ _ => Alu.getLsbD_or a b, arithX_of_alu64X fun a b _ _ => Alu.getLsbD_or a b,
    arithK_of_alu64K fun a b _ _ => Alu.getLsbD_and a b, arithX_of_alu64X fun a b _ _ => Alu.getLsbD_and a b,
    arithK_of_alu64K fun a b _ _ => Alu.getLsbD_xor a b, arithX_of_alu64X fun a b _ _ => Alu.getLsbD_xor a b⟩

/-- Settles O33: the shift amount is taken modulo 64, and a move reads its source alone. -/
theorem alu64ShiftMove : Obligations.Alu64ShiftMove :=
  ⟨arithK_of_alu64K Alu.toNat_lsh64, arithX_of_alu64X Alu.toNat_lsh64,
    arithK_of_alu64K Alu.toNat_rsh64, arithX_of_alu64X Alu.toNat_rsh64,
    arithK_of_alu64K Alu.toInt_arsh64, arithX_of_alu64X Alu.toInt_arsh64,
    moveK_of_exec (f := id) (fun _ _ => encoded_of_encode rfl rfl rfl) exec_mov64K fun _ => rfl,
    moveX_of_exec64 (f := id) fun _ => rfl,
    moveX_of_exec64 (f := sextLow 8) fun b => toInt_sextLow b (by decide),
    moveX_of_exec64 (f := sextLow 16) fun b => toInt_sextLow b (by decide),
    moveX_of_exec64 (f := sextLow 32) fun b => toInt_sextLow b (by decide)⟩

end Sys2Proof.Machine
end

section
/-! The byte swaps (rules R180 to R189): what the operations of rule R13 do to the bytes of a value, and that each
instruction is the unary form with its operation. -/

namespace Sys2Proof.Machine

open Sys2Proof.Spec

section Bytes

variable {n m : Nat} {v : BitVec n} {r : BitVec m}

/-- The bytes of `r` are the lowest bytes of `v` in reverse order: `Reversed` of a part of a value. -/
def LowReversed (v : BitVec n) (r : BitVec m) : Prop :=
  ∀ k, 8 * k < m → r.extractLsb' (8 * k) 8 = v.extractLsb' (m - 8 * (k + 1)) 8

theorem lowReversed_iff_reversed {r : BitVec n} : LowReversed v r ↔ Reversed v r := Iff.rfl

theorem lowReversed_lowest : LowReversed v (v.extractLsb' 0 8) := by
  intro k hk
  obtain rfl : k = 0 := by omega
  exact BitVec.extractLsb'_eq_self

/-- The next byte of `v` enters below, and the bytes before it move up by one place. -/
theorem LowReversed.append (h : LowReversed v r) : LowReversed v (r ++ v.extractLsb' m 8) := by
  intro k hk
  cases k with
  | zero => exact BitVec.extractLsb'_append_eq_right
  | succ k =>
    have hr : r.extractLsb' (8 * (k + 1) - 8) 8 = v.extractLsb' (m - 8 * (k + 1)) 8 := h k (by omega)
    have hplace : m + 8 - 8 * (k + 1 + 1) = m - 8 * (k + 1) := by omega
    exact extract_append_above (by omega) (hplace ▸ hr)

theorem reversed_bswap16 (v : BitVec 16) : Reversed v (bswap16 v) :=
  lowReversed_iff_reversed.1 lowReversed_lowest.append

theorem reversed_bswap32 (v : BitVec 32) : Reversed v (bswap32 v) :=
  lowReversed_iff_reversed.1 lowReversed_lowest.append.append.append

theorem reversed_bswap64 (v : BitVec 64) : Reversed v (bswap64 v) :=
  lowReversed_iff_reversed.1 lowReversed_lowest.append.append.append.append.append.append.append

end Bytes

theorem big_ne_little : Endian.big ≠ .little := nofun

/-- There are two byte orders. -/
theorem eq_or_eq_of_endian_ne : ∀ {host order : Endian}, host ≠ order → ∀ e, e = order ∨ e = host
  | .big, .little, _, .little | .little, .big, _, .big => .inl rfl
  | .big, .little, _, .big | .little, .big, _, .little => .inr rfl

section Forms

variable {w : Nat} {order host : Endian} {swap : BitVec w → BitVec w}

theorem toOrder_same (v : BitVec w) : toOrder order order swap v = v := if_pos rfl

theorem toOrder_other (h : host ≠ order) (v : BitVec w) : toOrder order host swap v = swap v := if_neg h

variable {mk : Reg → Instr} {op : BitVec 8} {imm : Word32} {g : Group} {R : Endian → BitVec w → BitVec w → Prop}

/-- A swap that every host makes (BSWAP, rules R187 to R189). -/
theorem unary_of_swap (hR : ∀ e v, R e v (swap v))
    (hexec : ∀ dst s, exec (mk dst) s = swapReg w swap dst s := by intros; rfl)
    (henc : ∀ dst, Encoded (mk dst) ⟨op, regBits dst, 0, 0, imm⟩ g := by
      exact fun _ => encoded_of_encode rfl rfl rfl) : Unary w mk op imm g R :=
  unary_of_exec (f := fun _ => swap) henc hexec hR

/-- A swap to `order`, which a host of that order does not make (LE and BE, rules R181 to R186). -/
theorem unary_of_toOrder (hne : host ≠ order) (hsame : ∀ v, R order v v) (hswap : ∀ v, R host v (swap v))
    (hexec : ∀ dst s, exec (mk dst) s = swapReg w (toOrder order s.params.hostEndian swap) dst s := by intros; rfl)
    (henc : ∀ dst, Encoded (mk dst) ⟨op, regBits dst, 0, 0, imm⟩ g := by
      exact fun _ => encoded_of_encode rfl rfl rfl) : Unary w mk op imm g R := by
  refine unary_of_exec (f := fun e => toOrder order e swap) henc hexec fun e v => ?_
  obtain rfl | rfl := eq_or_eq_of_endian_ne hne e
  · exact (toOrder_same v).symm ▸ hsame v
  · exact (toOrder_other hne v).symm ▸ hswap v

end Forms

/-- Settles O34: the bytes stay where the host has the order asked for, and are reversed elsewhere. -/
theorem byteSwaps : Obligations.ByteSwaps :=
  ⟨unary_of_toOrder big_ne_little (fun _ => rfl) reversed_bswap16,
    unary_of_toOrder big_ne_little (fun _ => rfl) reversed_bswap32,
    unary_of_toOrder big_ne_little (fun _ => rfl) reversed_bswap64,
    unary_of_toOrder big_ne_little.symm (fun _ => rfl) reversed_bswap16,
    unary_of_toOrder big_ne_little.symm (fun _ => rfl) reversed_bswap32,
    unary_of_toOrder big_ne_little.symm (fun _ => rfl) reversed_bswap64,
    unary_of_swap fun _ => reversed_bswap16,
    unary_of_swap fun _ => reversed_bswap32,
    unary_of_swap fun _ => reversed_bswap64⟩

end Sys2Proof.Machine
end

section
/-! The conditional jumps (rules R200 to R250): the condition of each in integers and in bits, and that an instruction
which reads its operands and branches on a condition meets its statement whatever the condition. The operand width is
32 or 64. -/

namespace Sys2Proof.Machine

open Sys2Proof.Spec

/-! The conditions (Table J) -/

section Conditions

variable {n : Nat} (a b : BitVec n)

theorem Cond.jeq_iff : Cond.jeq a b = true ↔ a = b := beq_iff_eq

theorem Cond.jne_iff : Cond.jne a b = true ↔ a ≠ b := bne_iff_ne

/-- A bitwise conjunction is other than 0 exactly where its operands have a bit in common. -/
theorem Cond.jset_iff : Cond.jset a b = true ↔ ∃ k, a.getLsbD k = true ∧ b.getLsbD k = true := by
  have hzero : a &&& b = 0#n ↔ ∀ k, ¬ (a.getLsbD k = true ∧ b.getLsbD k = true) := by
    constructor
    · intro h k hk
      have hbit := congrArg (BitVec.getLsbD · k) h
      simp [hk] at hbit
    · intro h
      refine BitVec.eq_of_getLsbD_eq fun k _ => ?_
      simpa using h k
  rw [Cond.jset, bne_iff_ne, Ne, hzero, Classical.not_forall_not]

theorem Cond.jgt_iff : Cond.jgt a b = true ↔ a.toNat > b.toNat := decide_eq_true_iff

theorem Cond.jge_iff : Cond.jge a b = true ↔ a.toNat ≥ b.toNat := decide_eq_true_iff

theorem Cond.jlt_iff : Cond.jlt a b = true ↔ a.toNat < b.toNat := decide_eq_true_iff

theorem Cond.jle_iff : Cond.jle a b = true ↔ a.toNat ≤ b.toNat := decide_eq_true_iff

theorem Cond.jsgt_iff : Cond.jsgt a b = true ↔ a.toInt > b.toInt := decide_eq_true_iff

theorem Cond.jsge_iff : Cond.jsge a b = true ↔ a.toInt ≥ b.toInt := decide_eq_true_iff

theorem Cond.jslt_iff : Cond.jslt a b = true ↔ a.toInt < b.toInt := decide_eq_true_iff

theorem Cond.jsle_iff : Cond.jsle a b = true ↔ a.toInt ≤ b.toInt := decide_eq_true_iff

end Conditions

/-! The two outcomes of a jump, and the check of its target -/

/-- A branch on a condition goes to the target where the condition holds, and to the next slot where it does not. -/
theorem State.branch_outcomes (s : State) (offset : BitVec 16) {taken : Bool} {P : Prop} (h : taken = true ↔ P) :
    (P → s.branch taken offset = .next (Jumped s (s.pc + 1 + offset.toInt))) ∧
      (¬ P → s.branch taken offset = .next (Jumped s (s.pc + 1))) := by
  rw [← h]
  cases taken with
  | true => exact ⟨fun _ => rfl, fun hnot => (hnot rfl).elim⟩
  | false => exact ⟨nofun, fun _ => rfl⟩

/-- A pc that is no instruction's is found out by the next fetch, whatever instruction has set it (rules R201, R404). -/
theorem badTargetFaults (i : Instr) : BadTargetFaults i := by
  intro s t _ hrun hgroups hbad
  obtain ⟨-, hfault⟩ := step_of_fetch hrun hgroups
  exact hfault _ (State.fetch_of_not_fetchable (Bool.eq_false_iff.1 hbad))

/-! The forms -/

section Forms

variable {w : Nat} {op : BitVec 8} {g : Group} {C : BitVec w → BitVec w → Prop} {c : BitVec w → BitVec w → Bool}

/-- A K form that branches on `c` of `dst` and `imm`. -/
theorem jumpK_of_exec {mk : Reg → Word32 → BitVec 16 → Instr}
    (hC : ∀ a b, c a b = true ↔ C a b)
    (hexec : ∀ dst imm offset s, exec (mk dst imm offset) s
      = s.withReg dst fun a => s.branch (c (a.setWidth w) (imm.signExtend w)) offset)
    (henc : ∀ dst imm offset, Encoded (mk dst imm offset) ⟨op, regBits dst, 0, offset, imm⟩ g) :
    JumpK w mk op g C := by
  refine fun dst imm offset => ⟨henc dst imm offset, badTargetFaults _, fun s => ⟨fun a ha => ?_, fun hnone => ?_⟩⟩
  · rw [hexec, s.withReg_value dst _ a ha]
    exact s.branch_outcomes offset (hC _ _)
  · exact (hexec dst imm offset s).trans (s.withReg_noValue dst _ hnone)

/-- An X form that branches on `c` of `dst` and `src`, both read first. -/
theorem jumpX_of_exec {mk : Reg → Reg → BitVec 16 → Instr}
    (hC : ∀ a b, c a b = true ↔ C a b)
    (hexec : ∀ dst src offset s, exec (mk dst src offset) s = s.withReg dst fun a => s.withReg src fun b =>
      s.branch (c (a.setWidth w) (b.setWidth w)) offset)
    (henc : ∀ dst src offset, Encoded (mk dst src offset) ⟨op, regBits dst, regBits src, offset, 0⟩ g) :
    JumpX w mk op g C := by
  refine fun dst src offset => ⟨henc dst src offset, badTargetFaults _, fun s =>
    ⟨fun a b ha hb => ?_, fun hnone => ?_, fun hsome hnone => ?_⟩⟩
  · rw [hexec, s.withReg_value dst _ a ha, s.withReg_value src _ b hb]
    exact s.branch_outcomes offset (hC _ _)
  · exact (hexec dst src offset s).trans (s.withReg_noValue dst _ hnone)
  · obtain ⟨a, ha⟩ := Option.ne_none_iff_exists'.1 hsome
    exact (hexec dst src offset s).trans ((s.withReg_value dst _ a ha).trans (s.withReg_noValue src _ hnone))

end Forms

/-! The forms of class JMP, where a register is read whole, and of class JMP32, where `imm` is taken as encoded. -/

section Classes

variable {op : BitVec 8} {g : Group}

theorem jumpK_of_jump64K {mk : Reg → Word32 → BitVec 16 → Instr} {C : Word → Word → Prop} {c : Word → Word → Bool}
    (hC : ∀ a b, c a b = true ↔ C a b)
    (hexec : ∀ dst imm offset s, exec (mk dst imm offset) s = jump64K c dst imm offset s)
    (henc : ∀ dst imm offset, Encoded (mk dst imm offset) ⟨op, regBits dst, 0, offset, imm⟩ g) :
    JumpK 64 mk op g C := by
  refine jumpK_of_exec hC (fun dst imm offset s => ?_) henc
  simp only [hexec, jump64K, sextImm, BitVec.setWidth_eq]

theorem jumpX_of_jump64X {mk : Reg → Reg → BitVec 16 → Instr} {C : Word → Word → Prop} {c : Word → Word → Bool}
    (hC : ∀ a b, c a b = true ↔ C a b)
    (hexec : ∀ dst src offset s, exec (mk dst src offset) s = jump64X c dst src offset s)
    (henc : ∀ dst src offset, Encoded (mk dst src offset) ⟨op, regBits dst, regBits src, offset, 0⟩ g) :
    JumpX 64 mk op g C := by
  refine jumpX_of_exec hC (fun dst src offset s => ?_) henc
  simp only [hexec, jump64X, BitVec.setWidth_eq]

theorem jumpK_of_jump32K {mk : Reg → Word32 → BitVec 16 → Instr} {C : Word32 → Word32 → Prop}
    {c : Word32 → Word32 → Bool} (hC : ∀ a b, c a b = true ↔ C a b)
    (hexec : ∀ dst imm offset s, exec (mk dst imm offset) s = jump32K c dst imm offset s)
    (henc : ∀ dst imm offset, Encoded (mk dst imm offset) ⟨op, regBits dst, 0, offset, imm⟩ g) :
    JumpK 32 mk op g C := by
  refine jumpK_of_exec hC (fun dst imm offset s => ?_) henc
  simp only [hexec, jump32K, low32, BitVec.signExtend_eq]

theorem jumpX_of_jump32X {mk : Reg → Reg → BitVec 16 → Instr} {C : Word32 → Word32 → Prop}
    {c : Word32 → Word32 → Bool} (hC : ∀ a b, c a b = true ↔ C a b)
    (hexec : ∀ dst src offset s, exec (mk dst src offset) s = jump32X c dst src offset s)
    (henc : ∀ dst src offset, Encoded (mk dst src offset) ⟨op, regBits dst, regBits src, offset, 0⟩ g) :
    JumpX 32 mk op g C :=
  jumpX_of_exec hC hexec henc

end Classes

/-- Settles O35: the test of JSET is that of a bit in common. -/
theorem jumpsOnEquality : Obligations.JumpsOnEquality :=
  ⟨jumpK_of_jump64K Cond.jeq_iff (fun _ _ _ _ => rfl) fun _ _ _ => encoded_of_encode rfl rfl rfl,
    jumpX_of_jump64X Cond.jeq_iff (fun _ _ _ _ => rfl) fun _ _ _ => encoded_of_encode rfl rfl rfl,
    jumpK_of_jump32K Cond.jeq_iff (fun _ _ _ _ => rfl) fun _ _ _ => encoded_of_encode rfl rfl rfl,
    jumpX_of_jump32X Cond.jeq_iff (fun _ _ _ _ => rfl) fun _ _ _ => encoded_of_encode rfl rfl rfl,
    jumpK_of_jump64K Cond.jne_iff (fun _ _ _ _ => rfl) fun _ _ _ => encoded_of_encode rfl rfl rfl,
    jumpX_of_jump64X Cond.jne_iff (fun _ _ _ _ => rfl) fun _ _ _ => encoded_of_encode rfl rfl rfl,
    jumpK_of_jump32K Cond.jne_iff (fun _ _ _ _ => rfl) fun _ _ _ => encoded_of_encode rfl rfl rfl,
    jumpX_of_jump32X Cond.jne_iff (fun _ _ _ _ => rfl) fun _ _ _ => encoded_of_encode rfl rfl rfl,
    jumpK_of_jump64K Cond.jset_iff (fun _ _ _ _ => rfl) fun _ _ _ => encoded_of_encode rfl rfl rfl,
    jumpX_of_jump64X Cond.jset_iff (fun _ _ _ _ => rfl) fun _ _ _ => encoded_of_encode rfl rfl rfl,
    jumpK_of_jump32K Cond.jset_iff (fun _ _ _ _ => rfl) fun _ _ _ => encoded_of_encode rfl rfl rfl,
    jumpX_of_jump32X Cond.jset_iff (fun _ _ _ _ => rfl) fun _ _ _ => encoded_of_encode rfl rfl rfl⟩

/-- Settles O36: the comparisons of JGT and JGE are of unsigned values. -/
theorem jumpsUnsignedGreater : Obligations.JumpsUnsignedGreater :=
  ⟨jumpK_of_jump64K Cond.jgt_iff (fun _ _ _ _ => rfl) fun _ _ _ => encoded_of_encode rfl rfl rfl,
    jumpX_of_jump64X Cond.jgt_iff (fun _ _ _ _ => rfl) fun _ _ _ => encoded_of_encode rfl rfl rfl,
    jumpK_of_jump32K Cond.jgt_iff (fun _ _ _ _ => rfl) fun _ _ _ => encoded_of_encode rfl rfl rfl,
    jumpX_of_jump32X Cond.jgt_iff (fun _ _ _ _ => rfl) fun _ _ _ => encoded_of_encode rfl rfl rfl,
    jumpK_of_jump64K Cond.jge_iff (fun _ _ _ _ => rfl) fun _ _ _ => encoded_of_encode rfl rfl rfl,
    jumpX_of_jump64X Cond.jge_iff (fun _ _ _ _ => rfl) fun _ _ _ => encoded_of_encode rfl rfl rfl,
    jumpK_of_jump32K Cond.jge_iff (fun _ _ _ _ => rfl) fun _ _ _ => encoded_of_encode rfl rfl rfl,
    jumpX_of_jump32X Cond.jge_iff (fun _ _ _ _ => rfl) fun _ _ _ => encoded_of_encode rfl rfl rfl⟩

/-- Settles O37: the comparisons of JLT and JLE are of unsigned values. -/
theorem jumpsUnsignedLess : Obligations.JumpsUnsignedLess :=
  ⟨jumpK_of_jump64K Cond.jlt_iff (fun _ _ _ _ => rfl) fun _ _ _ => encoded_of_encode rfl rfl rfl,
    jumpX_of_jump64X Cond.jlt_iff (fun _ _ _ _ => rfl) fun _ _ _ => encoded_of_encode rfl rfl rfl,
    jumpK_of_jump32K Cond.jlt_iff (fun _ _ _ _ => rfl) fun _ _ _ => encoded_of_encode rfl rfl rfl,
    jumpX_of_jump32X Cond.jlt_iff (fun _ _ _ _ => rfl) fun _ _ _ => encoded_of_encode rfl rfl rfl,
    jumpK_of_jump64K Cond.jle_iff (fun _ _ _ _ => rfl) fun _ _ _ => encoded_of_encode rfl rfl rfl,
    jumpX_of_jump64X Cond.jle_iff (fun _ _ _ _ => rfl) fun _ _ _ => encoded_of_encode rfl rfl rfl,
    jumpK_of_jump32K Cond.jle_iff (fun _ _ _ _ => rfl) fun _ _ _ => encoded_of_encode rfl rfl rfl,
    jumpX_of_jump32X Cond.jle_iff (fun _ _ _ _ => rfl) fun _ _ _ => encoded_of_encode rfl rfl rfl⟩

/-- Settles O38: the comparisons of JSGT and JSGE are of signed values, in JMP32 of the low 32 bits. -/
theorem jumpsSignedGreater : Obligations.JumpsSignedGreater :=
  ⟨jumpK_of_jump64K Cond.jsgt_iff (fun _ _ _ _ => rfl) fun _ _ _ => encoded_of_encode rfl rfl rfl,
    jumpX_of_jump64X Cond.jsgt_iff (fun _ _ _ _ => rfl) fun _ _ _ => encoded_of_encode rfl rfl rfl,
    jumpK_of_jump32K Cond.jsgt_iff (fun _ _ _ _ => rfl) fun _ _ _ => encoded_of_encode rfl rfl rfl,
    jumpX_of_jump32X Cond.jsgt_iff (fun _ _ _ _ => rfl) fun _ _ _ => encoded_of_encode rfl rfl rfl,
    jumpK_of_jump64K Cond.jsge_iff (fun _ _ _ _ => rfl) fun _ _ _ => encoded_of_encode rfl rfl rfl,
    jumpX_of_jump64X Cond.jsge_iff (fun _ _ _ _ => rfl) fun _ _ _ => encoded_of_encode rfl rfl rfl,
    jumpK_of_jump32K Cond.jsge_iff (fun _ _ _ _ => rfl) fun _ _ _ => encoded_of_encode rfl rfl rfl,
    jumpX_of_jump32X Cond.jsge_iff (fun _ _ _ _ => rfl) fun _ _ _ => encoded_of_encode rfl rfl rfl⟩

/-- Settles O39: the comparisons of JSLT and JSLE are of signed values, in JMP32 of the low 32 bits. -/
theorem jumpsSignedLess : Obligations.JumpsSignedLess :=
  ⟨jumpK_of_jump64K Cond.jslt_iff (fun _ _ _ _ => rfl) fun _ _ _ => encoded_of_encode rfl rfl rfl,
    jumpX_of_jump64X Cond.jslt_iff (fun _ _ _ _ => rfl) fun _ _ _ => encoded_of_encode rfl rfl rfl,
    jumpK_of_jump32K Cond.jslt_iff (fun _ _ _ _ => rfl) fun _ _ _ => encoded_of_encode rfl rfl rfl,
    jumpX_of_jump32X Cond.jslt_iff (fun _ _ _ _ => rfl) fun _ _ _ => encoded_of_encode rfl rfl rfl,
    jumpK_of_jump64K Cond.jsle_iff (fun _ _ _ _ => rfl) fun _ _ _ => encoded_of_encode rfl rfl rfl,
    jumpX_of_jump64X Cond.jsle_iff (fun _ _ _ _ => rfl) fun _ _ _ => encoded_of_encode rfl rfl rfl,
    jumpK_of_jump32K Cond.jsle_iff (fun _ _ _ _ => rfl) fun _ _ _ => encoded_of_encode rfl rfl rfl,
    jumpX_of_jump32X Cond.jsle_iff (fun _ _ _ _ => rfl) fun _ _ _ => encoded_of_encode rfl rfl rfl⟩

end Sys2Proof.Machine
end

section
/-! The jumps without a condition, the program-local call and EXIT (rules R205, R206, R252, R254). -/

namespace Sys2Proof.Machine

open Sys2Proof.Spec

/-- Settles O40: each of the two goes to its target from every state. -/
theorem unconditionalJumps : Obligations.UnconditionalJumps :=
  ⟨fun _ => ⟨encoded_of_encode rfl rfl rfl, badTargetFaults _, fun _ => rfl⟩,
    fun _ => ⟨encoded_of_encode rfl rfl rfl, badTargetFaults _, fun _ => rfl⟩⟩

/-- A CALL_LOCAL at `MAX_CALL_DEPTH` raises CallDepth (rules R252, R407). -/
theorem exec_callLocal_of_full {s : State} (imm : Word32) (h : s.callStackFull = true) :
    exec (.callLocal imm) s = .next (Faulted s (.callDepth s.pc)) := by
  change execCallLocal imm s = _
  rw [execCallLocal, if_pos h]
  rfl

/-- A CALL_LOCAL below `MAX_CALL_DEPTH` makes the call (rule R252). -/
theorem exec_callLocal_of_room {s : State} (imm : Word32) (h : s.callStackFull ≠ true) :
    exec (.callLocal imm) s = .next (s.call (jumpTarget s.pc imm)) := by
  change execCallLocal imm s = _
  rw [execCallLocal, if_neg h]

/-- With `CALL_ABI = bare` a frame saves no register (rule R252). -/
theorem CallAbi.saved_of_bare {abi : CallAbi} (h : abi = CallAbi.bare) : abi.saved = [] := h ▸ rfl

/-- Settles O41: the depth decides between the fault and the call, and the bare convention adds nothing to a call. -/
theorem localCalls : Obligations.LocalCalls := by
  refine fun imm => ⟨encoded_of_encode rfl rfl rfl, badTargetFaults _, fun s => ⟨fun hfull => ?_, fun hroom => ?_⟩⟩
  · exact exec_callLocal_of_full imm (s.callStackFull_iff.2 hfull)
  · have hnotFull : s.callStackFull ≠ true := fun hfull => by
      obtain ⟨d, hd, hle⟩ := s.callStackFull_iff.1 hfull
      exact Nat.not_le.2 (hroom d hd) hle
    refine ⟨_, _, exec_callLocal_of_room imm hnotFull, fun hbare => ⟨s.call_regs_bare (jumpTarget s.pc imm) hbare, ?_⟩⟩
    rw [CallAbi.saved_of_bare hbare, List.map_nil]

/-- EXIT with no frame to return to ends the run (rule R254). -/
theorem exec_exit_of_empty {s : State} (hcs : s.cs = []) : exec .exit s = .next { s with status := .exited } := by
  change execExit s = _
  simp only [execExit, hcs]

/-- Settles O42: the call stack decides between the end of the run and the return. -/
theorem exitInstruction : Obligations.ExitInstruction := by
  refine ⟨encoded_of_encode rfl rfl rfl, fun s => ⟨exec_exit_of_empty, fun f rest hcs => ?_⟩⟩
  exact ⟨_, exec_exit_of_frame hcs, s.ret_regs_bare f rest⟩

end Sys2Proof.Machine
end

section
/-! The helper calls (rules R251, R253): what a call does, by the helper's relation read as a relation, and three
helpers in particular. The relations are the model's own language (log entry 8). -/

namespace Sys2Proof.Machine

open Sys2Proof.Spec

/-- The state in which a helper call completes with the registers and memory of `y`. -/
def State.helped (s : State) (y : PlatformState) : State :=
  { s with regs := y.regs, mem := y.mem, pc := s.pc + 1, ticks := s.ticks + 1 }

theorem State.helped_congr (s : State) {y z : PlatformState} (hregs : z.regs = y.regs) (hmem : z.mem = y.mem) :
    s.helped z = s.helped y := by
  simp only [State.helped, hregs, hmem]

section Calls

variable {s : State} {site : FreeSite} {table : List (Word32 × HelperRel)} {imm : Word32} {h : HelperRel}
  {y : PlatformState}

/-- The model lists what the statements say a helper may leave. -/
theorem mem_outcomes_iff_helperLeaves :
    y ∈ HelperRel.outcomes (s.siteOf site) h s.platformState ↔ HelperLeaves s site h y :=
  HelperRel.mem_outcomes (s.siteOf site) h s.platformState y

theorem State.callPlatform_unknown (hl : table.lookup imm = none) :
    s.callPlatform site table imm = .next (Faulted s (.platformFault .unknownHelper imm)) := by
  simp only [State.callPlatform, hl]
  rfl

/-- All that a call of a known helper can do: it fails where its relation relates the state to nothing, and completes
elsewhere with something the relation leaves. -/
theorem State.callPlatform_known_cases (hl : table.lookup imm = some h) :
    (∀ y, ¬ HelperLeaves s site h y) ∧
        s.callPlatform site table imm = .next (Faulted s (.platformFault .helperFailed imm)) ∨
      ∃ y, HelperLeaves s site h y ∧ s.callPlatform site table imm = .next (s.helped y) := by
  obtain ⟨hnone, -⟩ | ⟨h', hl', hcases⟩ := s.callPlatform_cases site table imm
  · cases hl.symm.trans hnone
  · cases hl.symm.trans hl'
    obtain ⟨hempty, hfail⟩ | ⟨y, hy, hdone⟩ := hcases
    · refine .inl ⟨fun y hy => ?_, hfail⟩
      have hmem := mem_outcomes_iff_helperLeaves.2 hy
      exact List.not_mem_nil (hempty ▸ hmem)
    · exact .inr ⟨y, mem_outcomes_iff_helperLeaves.1 hy, hdone⟩

/-- A call of a helper that may leave something completes with something it may leave (rule R251: choose). -/
theorem State.callPlatform_of_leaves (hl : table.lookup imm = some h) (hy : HelperLeaves s site h y) :
    ∃ z, HelperLeaves s site h z ∧ s.callPlatform site table imm = .next (s.helped z) := by
  obtain ⟨hnone, -⟩ | hdone := s.callPlatform_known_cases hl
  · exact (hnone y hy).elim
  · exact hdone

/-- A call of a helper that may leave one thing alone completes with that. -/
theorem State.callPlatform_of_leaves_only (hl : table.lookup imm = some h) (hy : HelperLeaves s site h y)
    (honly : ∀ z, HelperLeaves s site h z → z.regs = y.regs ∧ z.mem = y.mem) :
    s.callPlatform site table imm = .next (s.helped y) := by
  obtain ⟨z, hz, hdone⟩ := State.callPlatform_of_leaves hl hy
  obtain ⟨hregs, hmem⟩ := honly z hz
  rw [hdone, s.helped_congr hregs hmem]

variable {i : Instr}

theorem helperCall_of_exec (hexec : exec i s = s.callPlatform site table imm) : HelperCall i imm s site table := by
  refine ⟨fun hl => hexec.trans (State.callPlatform_unknown hl), fun h hl => ?_⟩
  rw [hexec]
  obtain ⟨hnone, hfail⟩ | ⟨y, hy, hdone⟩ := s.callPlatform_known_cases hl
  · exact ⟨fun _ => hfail, fun ⟨y, hy⟩ => (hnone y hy).elim⟩
  · exact ⟨fun hnone => (hnone y hy).elim, fun _ => ⟨y, hy, hdone⟩⟩

theorem helperCompletes_of_exec (hexec : exec i s = s.callPlatform site table imm) :
    HelperCompletes i imm s site table := by
  refine ⟨fun h y hl hy => ?_, fun h y hl hy honly => hexec.trans (State.callPlatform_of_leaves_only hl hy honly)⟩
  obtain ⟨z, -, hdone⟩ := State.callPlatform_of_leaves hl hy
  exact ⟨s.helped z, hexec.trans hdone, rfl, rfl, rfl, rfl⟩

end Calls

/-- Settles O44: a call of a helper is a lookup in its table and a choice among what the relation leaves. -/
theorem helperCalls : Obligations.HelperCalls :=
  fun _ => ⟨encoded_of_encode rfl rfl rfl, encoded_of_encode rfl rfl rfl,
    fun _ => ⟨helperCall_of_exec rfl, helperCall_of_exec rfl⟩⟩

/-! Three helpers: one that computes a register, one that stores, one with a choice -/

section Examples

variable {s : State} {site : FreeSite} {table : List (Word32 × HelperRel)} {imm : Word32}

/-- A helper that sets one register to an expression with the value `v` (rule R251; log entry 8). -/
theorem State.callPlatform_setReg {r : Reg} {e : PlatformExpr} {v : Word}
    (hl : table.lookup imm = some (.setReg r e))
    (he : PlatformExpr.eval (s.siteOf site) s.platformState e = some v) :
    s.callPlatform site table imm = .next (Wrote s r v 1) := by
  have hleaves {z : PlatformState} : HelperLeaves s site (.setReg r e) z ↔ z = ⟨s.regs.set r (some v), s.mem, []⟩ := by
    rw [← he]
    rfl
  refine State.callPlatform_of_leaves_only hl (hleaves.2 rfl) fun z hz => ?_
  cases hleaves.1 hz
  exact ⟨rfl, rfl⟩

/-- A helper that stores at an address (rule R251; log entry 8). -/
theorem State.callPlatform_store {n : Nat} {ea v : PlatformExpr} {a b : Word}
    (hl : table.lookup imm = some (.store n ea v))
    (hea : PlatformExpr.eval (s.siteOf site) s.platformState ea = some a)
    (hv : PlatformExpr.eval (s.siteOf site) s.platformState v = some b) :
    s.callPlatform site table imm = .next (Stored s (s.mem.store s.params.hostEndian a.toNat n b)) := by
  refine State.callPlatform_of_leaves_only (y := ⟨s.regs, s.mem.store s.params.hostEndian a.toNat n b, []⟩) hl
    ⟨a, b, hea, hv, rfl⟩ fun z hz => ?_
  obtain ⟨a', b', hea', hv', rfl⟩ := hz
  cases hea.symm.trans hea'
  cases hv.symm.trans hv'
  exact ⟨rfl, rfl⟩

/-- A helper that may set a register to either of two values (rule R251; log entry 8). -/
theorem State.callPlatform_either_const {r : Reg} {u v : Word}
    (hl : table.lookup imm = some (.either (.setReg r (.const u)) (.setReg r (.const v)))) :
    s.callPlatform site table imm = .next (Wrote s r u 1) ∨ s.callPlatform site table imm = .next (Wrote s r v 1) := by
  obtain ⟨z, rfl | rfl, hdone⟩ :=
    State.callPlatform_of_leaves (s := s) (site := site) (y := ⟨s.regs.set r (some u), s.mem, []⟩) hl (.inl rfl)
  · exact .inl hdone
  · exact .inr hdone

end Examples

/-- The bytes that a store writes are those of its value, and it leaves the others alone. -/
theorem Memory.sameOutside_store (e : Endian) (m : Memory) (a n : Nat) (v : Word) :
    SameOutside m (m.store e a n v) a n := fun b hout => m.read_store_outside e a n b v hout

/-- Settles O55: a call whose helper may leave something always completes, and the three helpers show it at work. -/
theorem helperCallsComplete : Obligations.HelperCallsComplete := by
  refine fun imm s => ⟨helperCompletes_of_exec rfl, helperCompletes_of_exec rfl, fun a b hl ha hb => ?_,
    fun a b hl ha hb => ?_, fun u v hl => State.callPlatform_either_const hl⟩
  · refine State.callPlatform_setReg (site := .helper imm) hl ?_
    simp only [PlatformExpr.eval, State.platformState, ha, hb, PlatformOp.apply, Alu.add]
  · refine ⟨_, Memory.sameOutside_store _ _ _ _ _, fun hfits => ?_,
      State.callPlatform_store (site := .btfHelper imm) hl ha hb⟩
    obtain ⟨hholds, -⟩ := loadAfterStore s.params.hostEndian s.mem a.toNat 4 b (by decide) hfits
    exact hholds

end Sys2Proof.Machine
end

section
/-! The loads and stores (rules R270 to R287): the faults of an access, an access with no other agent inside it, and
the three forms, whatever the size. -/

namespace Sys2Proof.Machine

open Sys2Proof.Spec

/-! The faults of an access (rules R43, R44, R405) -/

section Faults

variable {s : State} {ea : Word} {n : Nat} {kind : AccessKind}

theorem not_alignedEnough (hmis : ea.toNat % n ≠ 0) (hfault : kind = .atomic ∨ s.params.misaligned = .fault) :
    ¬ AlignedEnough s ea n kind := by
  rintro (hzero | ⟨hordinary, hperform⟩)
  · exact hmis hzero
  · obtain hatomic | hfault := hfault
    · exact hordinary hatomic
    · rw [hperform] at hfault
      cases hfault

/-- The model's `ACCESSIBLE` compares words, the statements' compares their numbers. -/
theorem admits_iff_accessible : Params.admits s.params ea n kind = true ↔ Accessible s ea n kind :=
  Params.admits_iff _ _ _ _

/-- An instruction that comes to an access, whatever follows the access, raises its faults in the order of the rules. -/
theorem accessFaults_of_exec {i : Instr} {k : Result} (hexec : exec i s = s.withAccess ea n kind k) :
    AccessFaults i s ea n kind := by
  have hraise {r : MemReason} (hr : s.refuses ea n kind = some r) :
      exec i s = .next (Faulted s (.memoryFault ea n kind r)) :=
    hexec.trans (s.withAccess_refused ea n kind k r hr)
  obtain ⟨hwraps, hr⟩ | ⟨hfits, hmis, hfault, hr⟩ | ⟨hfits, haligned, hdenied, hr⟩ | ⟨hfits, haligned, hadmits, -⟩ :=
    s.refuses_cases ea n kind
  · have hnotFits := Nat.not_le.2 hwraps
    exact ⟨fun _ => hraise hr, fun h => absurd h hnotFits, fun h => absurd h hnotFits⟩
  · exact ⟨fun h => absurd hfits (Nat.not_le.2 h), fun _ _ => hraise hr,
      fun _ h => absurd h (not_alignedEnough hmis hfault)⟩
  · exact ⟨fun h => absurd hfits (Nat.not_le.2 h), fun _ h => absurd haligned h, fun _ _ _ => hraise hr⟩
  · exact ⟨fun h => absurd hfits (Nat.not_le.2 h), fun _ h => absurd haligned h,
      fun _ _ h => absurd (admits_iff_accessible.1 hadmits) h⟩

end Faults

/-! An access with no other agent inside it (rule R45): the bytes go one by one, and it makes no difference -/

section Quiet

variable {s : State} {ea : Word} {n : Nat}

/-- Where the environment's turn does not name each byte once, the bytes go in ascending order with no writes between. -/
theorem State.tornOrder_of_not_named (h : ∀ t, s.turn = some t → ¬ (t.order.map (·.1)).Perm (List.range n)) :
    s.tornOrder n = (List.range n).map fun k => (k, []) := by
  unfold State.tornOrder
  split
  next t hturn => exact if_neg fun hperm => h t hturn (List.isPerm_iff.1 hperm)
  next => rfl

/-- A torn read with no writes between reads the bytes of memory, and leaves memory as it is. -/
theorem Memory.tornLoad_alone (a : Nat) (ks : List Nat) (m : Memory) :
    Memory.tornLoad a (ks.map fun k => (k, [])) m = (ks.map fun k => (k, m.read (a + k)), m) := by
  induction ks with
  | nil => rfl
  | cons k ks ih => simp only [List.map_cons, Memory.tornLoad, Memory.writeCells, List.foldl_nil, ih]

/-- A torn write with no writes between is the byte writes of a store. -/
theorem Memory.tornStore_alone (e : Endian) (a n : Nat) (v : Word) (ks : List Nat) (m : Memory) :
    Memory.tornStore e a n v (ks.map fun k => (k, [])) m
      = ks.foldl (fun m k => m.write (a + k) (byteOf v (bytePlace e n k))) m := by
  induction ks generalizing m with
  | nil => rfl
  | cons k ks ih => exact ih _

/-- A lookup among bytes listed with their places finds the byte at its place. -/
theorem lookup_map_byte {f : Nat → Byte} {k : Nat} {ks : List Nat} (hk : k ∈ ks) :
    (ks.map fun j => (j, f j)).lookup k = some (f k) := by
  induction ks with
  | nil => cases hk
  | cons j ks ih =>
    rw [List.map_cons]
    by_cases hj : k = j
    · subst hj
      exact List.lookup_cons_self
    · rw [List.lookup_cons, beq_false_of_ne hj]
      exact ih ((List.mem_cons.1 hk).resolve_left hj)

/-- A read with no other agent inside it is a load, and leaves memory as it is. -/
theorem State.memRead_quiet (h : Quiet s ea n) :
    s.memRead ea n = (s.mem.load s.params.hostEndian ea.toNat n, s.mem) := by
  by_cases hmis : ea.toNat % n = 0
  · exact s.memRead_aligned ea n (bne_eq_false_iff_eq.2 hmis)
  · have horder := State.tornOrder_of_not_named (h.resolve_left hmis)
    have hbyte : ∀ k ∈ List.range n, (((List.range n).map fun j => (j, s.mem.read (ea.toNat + j))).lookup
        (bytePlace s.params.hostEndian n k)).getD 0#8 = s.mem.read (ea.toNat + bytePlace s.params.hostEndian n k) := by
      intro k hk
      rw [lookup_map_byte (List.mem_range.2 (bytePlace_lt _ (List.mem_range.1 hk))), Option.getD_some]
    simp only [State.memRead, misaligned_of_mod_ne hmis, if_true, horder, Memory.tornLoad_alone]
    rw [List.map_congr_left hbyte, Memory.load]

/-- A write with no other agent inside it is a store. -/
theorem State.memWrite_quiet (v : Word) (h : Quiet s ea n) :
    s.memWrite ea n v = s.mem.store s.params.hostEndian ea.toNat n v := by
  by_cases hmis : ea.toNat % n = 0
  · exact s.memWrite_aligned ea n v (bne_eq_false_iff_eq.2 hmis)
  · have horder := State.tornOrder_of_not_named (h.resolve_left hmis)
    simp only [State.memWrite, misaligned_of_mod_ne hmis, if_true, horder, Memory.tornStore_alone, Memory.store]

end Quiet

/-! The forms -/

/-- The bytes that a store writes hold its value (rule R42). -/
theorem Memory.holds_store (e : Endian) (m : Memory) {a n : Nat} (v : Word) (hfits : a + n ≤ 2 ^ 64) :
    Holds e (m.store e a n v) a n v := by
  intro k hk
  rw [place_eq_bytePlace]
  exact m.read_store_inside e a n k v hk hfits

section Forms

variable {n : Nat} {op : BitVec 8} {g : Group}

/-- A load that is `loadReg`; the extended value is as `R` says of the number loaded. -/
theorem load_of_loadReg {mk : Reg → Reg → BitVec 16 → Instr} {R : Nat → Word → Prop} (ext : Word → Word) (hn : n ≤ 8)
    (hR : ∀ v : Word, R v.toNat (ext v))
    (hexec : ∀ dst src offset s, exec (mk dst src offset) s = loadReg n ext dst src offset s)
    (henc : ∀ dst src offset, Encoded (mk dst src offset) ⟨op, regBits dst, regBits src, offset, 0⟩ g) :
    Load n mk op g R := by
  refine fun dst src offset => ⟨henc dst src offset, fun s => ⟨fun hnone => ?_, fun base hbase => ?_⟩⟩
  · exact (hexec dst src offset s).trans (s.withReg_noValue src _ hnone)
  · intro ea
    refine ⟨accessFaults_of_exec ((hexec dst src offset s).trans (s.withReg_value src _ base hbase)),
      fun hadmitted hquiet => ⟨ext (s.mem.load s.params.hostEndian ea.toNat n), ?_, ?_⟩⟩
    · rw [← Memory.toNat_load _ _ _ hn]
      exact hR _
    · have hread : s.memRead (effectiveAddress base offset) n = _ := State.memRead_quiet hquiet
      rw [hexec, loadReg_admitted hbase (State.refuses_of_admitted hadmitted), hread]
      rfl

/-- A store that is `storeAt`, once its registers are read. -/
theorem storesAt_of_storeAt {i : Instr} {s : State} {base v : Word} {offset : BitVec 16}
    (hexec : exec i s = storeAt n base offset v s) : StoresAt i s (base + offset.signExtend 64) n v := by
  refine ⟨accessFaults_of_exec hexec, fun hadmitted hquiet => ?_⟩
  have hok := State.refuses_of_admitted hadmitted
  obtain ⟨hfits, -⟩ := hadmitted
  refine ⟨_, s.mem.holds_store _ v hfits, Memory.sameOutside_store _ _ _ _ _, ?_⟩
  rw [hexec, ← State.memWrite_quiet v hquiet]
  exact s.withAccess_admitted _ n .write _ hok

/-- An immediate store reads `dst` alone and stores the sign-extended `imm` (rule R270). -/
theorem storeImm_of_storeImm {mk : Reg → BitVec 16 → Word32 → Instr}
    (hexec : ∀ dst offset imm s, exec (mk dst offset imm) s = storeImm n dst offset imm s)
    (henc : ∀ dst offset imm, Encoded (mk dst offset imm) ⟨op, regBits dst, 0, offset, imm⟩ g) :
    StoreImm n mk op g := by
  refine fun dst offset imm => ⟨henc dst offset imm, fun s => ⟨fun hnone => ?_, fun base hbase => ?_⟩⟩
  · exact (hexec dst offset imm s).trans (s.withReg_noValue dst _ hnone)
  · exact storesAt_of_storeAt ((hexec dst offset imm s).trans (s.withReg_value dst _ base hbase))

/-- A register store reads `dst` first (rule R408). -/
theorem storeReg_of_storeReg {mk : Reg → Reg → BitVec 16 → Instr}
    (hexec : ∀ dst src offset s, exec (mk dst src offset) s = storeReg n dst src offset s)
    (henc : ∀ dst src offset, Encoded (mk dst src offset) ⟨op, regBits dst, regBits src, offset, 0⟩ g) :
    StoreReg n mk op g := by
  refine fun dst src offset => ⟨henc dst src offset, fun s =>
    ⟨fun hnone => ?_, fun hsome hnone => ?_, fun base v hbase hv => storesAt_of_storeAt ?_⟩⟩
  · exact (hexec dst src offset s).trans (s.withReg_noValue dst _ hnone)
  · obtain ⟨base, hbase⟩ := Option.ne_none_iff_exists'.1 hsome
    exact (hexec dst src offset s).trans ((s.withReg_value dst _ base hbase).trans (s.withReg_noValue src _ hnone))
  · exact (hexec dst src offset s).trans ((s.withReg_value dst _ base hbase).trans (s.withReg_value src _ v hv))

end Forms

/-- A sign-extension load gives the signed number that the loaded bits stand for (rules R285 to R287). -/
theorem toInt_sextLow_ofNat {k : Nat} (hk : k ≤ 64) (v : Word) :
    (sextLow k v).toInt = (BitVec.ofNat k v.toNat).toInt := by
  rw [toInt_sextLow v hk, BitVec.ofNat_toNat]

/-- Settles O45: each load is one form, with its size and extension. -/
theorem loads : Obligations.Loads :=
  ⟨load_of_loadReg id (by decide) (fun _ => rfl) (fun _ _ _ _ => rfl) fun _ _ _ => encoded_of_encode rfl rfl rfl,
    load_of_loadReg id (by decide) (fun _ => rfl) (fun _ _ _ _ => rfl) fun _ _ _ => encoded_of_encode rfl rfl rfl,
    load_of_loadReg id (by decide) (fun _ => rfl) (fun _ _ _ _ => rfl) fun _ _ _ => encoded_of_encode rfl rfl rfl,
    load_of_loadReg id (by decide) (fun _ => rfl) (fun _ _ _ _ => rfl) fun _ _ _ => encoded_of_encode rfl rfl rfl,
    load_of_loadReg (sextLow 32) (by decide) (toInt_sextLow_ofNat (by decide)) (fun _ _ _ _ => rfl)
      fun _ _ _ => encoded_of_encode rfl rfl rfl,
    load_of_loadReg (sextLow 16) (by decide) (toInt_sextLow_ofNat (by decide)) (fun _ _ _ _ => rfl)
      fun _ _ _ => encoded_of_encode rfl rfl rfl,
    load_of_loadReg (sextLow 8) (by decide) (toInt_sextLow_ofNat (by decide)) (fun _ _ _ _ => rfl)
      fun _ _ _ => encoded_of_encode rfl rfl rfl⟩

/-- Settles O46: each store is one of two forms, with its size. -/
theorem stores : Obligations.Stores :=
  ⟨storeImm_of_storeImm (fun _ _ _ _ => rfl) fun _ _ _ => encoded_of_encode rfl rfl rfl,
    storeImm_of_storeImm (fun _ _ _ _ => rfl) fun _ _ _ => encoded_of_encode rfl rfl rfl,
    storeImm_of_storeImm (fun _ _ _ _ => rfl) fun _ _ _ => encoded_of_encode rfl rfl rfl,
    storeImm_of_storeImm (fun _ _ _ _ => rfl) fun _ _ _ => encoded_of_encode rfl rfl rfl,
    storeReg_of_storeReg (fun _ _ _ _ => rfl) fun _ _ _ => encoded_of_encode rfl rfl rfl,
    storeReg_of_storeReg (fun _ _ _ _ => rfl) fun _ _ _ => encoded_of_encode rfl rfl rfl,
    storeReg_of_storeReg (fun _ _ _ _ => rfl) fun _ _ _ => encoded_of_encode rfl rfl rfl,
    storeReg_of_storeReg (fun _ _ _ _ => rfl) fun _ _ _ => encoded_of_encode rfl rfl rfl⟩

end Sys2Proof.Machine
end

section
/-! The atomics (rules R300 to R322): what one read-modify-write leaves in memory, the functions that the instructions
apply, and the three forms, whatever the size. -/

namespace Sys2Proof.Machine

open Sys2Proof.Spec

/-! The functions of the atomics, on the low bytes of the operands (rule R300) -/

/-- On `n`-byte operands the low `8n` bits of `f` are the number that `F` gives. `old` comes zero extended from memory;
of the register operand the low `8n` bits count. -/
def ComputesLow (n : Nat) (f : Word → Word → Word) (F : Nat → Nat → Nat) : Prop :=
  ∀ old v : Word, old.toNat < 2 ^ (8 * n) → (f old v).toNat % 2 ^ (8 * n) = F old.toNat (v.toNat % 2 ^ (8 * n))

section Functions

variable {F : Nat → Nat → Nat}

/-- A function of 32-bit words serves a four-byte atomic. -/
theorem computesLow_on32 {f : Word32 → Word32 → Word32} (hf : ∀ a b, (f a b).toNat = F a.toNat b.toNat) :
    ComputesLow 4 (on32 f) F := by
  intro old v hold
  have hlow : (low32 old).toNat = old.toNat := (BitVec.toNat_setWidth 32 old).trans (Nat.mod_eq_of_lt hold)
  have hzext : (on32 f old v).toNat % 2 ^ (8 * 4) = (f (low32 old) (low32 v)).toNat := by
    rw [on32, zext64, BitVec.toNat_setWidth_of_le (by decide), Nat.mod_eq_of_lt (BitVec.isLt _)]
  rw [hzext, hf, hlow, low32, BitVec.toNat_setWidth]

/-- A function of 64-bit words serves an eight-byte atomic. -/
theorem computesLow_word {f : Word → Word → Word} (hf : ∀ a b, (f a b).toNat = F a.toNat b.toNat) :
    ComputesLow 8 f F := by
  intro old v _
  rw [Nat.mod_eq_of_lt (f old v).isLt, Nat.mod_eq_of_lt v.isLt, hf]

theorem computesLow_exchange (n : Nat) : ComputesLow n exchange fun _ v => v := fun _ _ _ => rfl

/-- The comparison on the low `8n` bits is one of numbers, since the old value is zero extended (rules R312, R322). -/
theorem computesLow_compare (n : Nat) (r0 : Word) :
    ComputesLow n (fun old v => if old.setWidth (8 * n) = r0.setWidth (8 * n) then v else old)
      fun o v => if o = r0.toNat % 2 ^ (8 * n) then v else o := by
  intro old v hold
  have hequal : old.setWidth (8 * n) = r0.setWidth (8 * n) ↔ old.toNat = r0.toNat % 2 ^ (8 * n) := by
    rw [← BitVec.toNat_inj, BitVec.toNat_setWidth, BitVec.toNat_setWidth, Nat.mod_eq_of_lt hold]
  by_cases h : old.toNat = r0.toNat % 2 ^ (8 * n)
  · simp only [hequal.2 h, if_pos h, if_true]
  · simp only [mt hequal.1 h, if_neg h, if_false, Nat.mod_eq_of_lt hold]

end Functions

/-! One read-modify-write (rule R47) -/

section ReadModifyWrite

variable {n : Nat}

theorem Memory.toNat_load_lt (e : Endian) (m : Memory) (a n : Nat) : (m.load e a n).toNat < 2 ^ (8 * n) := by
  simpa only [Memory.load, List.length_map, List.length_range] using
    toNat_assemble_lt ((List.range n).map fun k => m.read (a + bytePlace e n k))

/-- The number in memory after a store (rule R42). -/
theorem Memory.value_store (e : Endian) (m : Memory) {a : Nat} (v : Word) (hn : n ≤ 8) (hfits : a + n ≤ 2 ^ 64) :
    value e (m.store e a n v) a n = v.toNat % 2 ^ (8 * n) :=
  (Memory.toNat_load e _ a hn).symm.trans (m.toNat_load_store e a v hn hfits)

/-- All that a read-modify-write answers: the old number, the new one in its place, and every other byte the same. -/
theorem State.atomicRMW_spec (s : State) {ea : Word} {f : Word → Word → Word} {F : Nat → Nat → Nat} (v : Word)
    (hn : n ≤ 8) (hF : ComputesLow n f F) (hfits : ea.toNat + n ≤ 2 ^ 64) :
    SameOutside s.mem (s.atomicRMW ea n (f · v)).2 ea.toNat n ∧
      (s.atomicRMW ea n (f · v)).1.toNat = value s.params.hostEndian s.mem ea.toNat n ∧
      value s.params.hostEndian (s.atomicRMW ea n (f · v)).2 ea.toNat n
        = F (s.atomicRMW ea n (f · v)).1.toNat (v.toNat % 2 ^ (8 * n)) :=
  ⟨Memory.sameOutside_store _ _ _ _ _, Memory.toNat_load _ _ _ hn,
    (Memory.value_store _ _ _ hn hfits).trans (hF _ v (Memory.toNat_load_lt _ _ _ _))⟩

end ReadModifyWrite

/-! The forms -/

section Forms

variable {n : Nat} {mk : Reg → Reg → BitVec 16 → Instr} {op : BitVec 8} {imm : Word32} {g : Group}

/-- An instruction that reads `dst` and then `src`, whatever it does next (rule R408). -/
theorem atomicReads_of_exec {rest : Reg → Reg → BitVec 16 → State → Word → Word → Result}
    (hexec : ∀ dst src offset s, exec (mk dst src offset) s
      = s.withReg dst fun base => s.withReg src (rest dst src offset s base))
    (henc : ∀ dst src offset, Encoded (mk dst src offset) ⟨op, regBits dst, regBits src, offset, imm⟩ g) :
    AtomicReads mk op imm g := by
  refine fun dst src offset => ⟨henc dst src offset, fun s => ⟨fun hnone => ?_, fun hsome hnone => ?_⟩⟩
  · exact (hexec dst src offset s).trans (s.withReg_noValue dst _ hnone)
  · obtain ⟨base, hbase⟩ := Option.ne_none_iff_exists'.1 hsome
    exact (hexec dst src offset s).trans ((s.withReg_value dst _ base hbase).trans (s.withReg_noValue src _ hnone))

/-- Two registers that hold values are read. -/
theorem State.withReg_values {s : State} {dst src : Reg} {base v : Word} {rest : Word → Word → Result}
    (hbase : s.regs[dst] = some base) (hv : s.regs[src] = some v) :
    (s.withReg dst fun b => s.withReg src (rest b)) = rest base v :=
  (s.withReg_value dst _ base hbase).trans (s.withReg_value src _ v hv)

/-- What an atomic does from its access on: the faults of the access, or `done` with the old number and the new memory.
The forms differ in `done` alone. -/
theorem atomicAccess_of_exec {i : Instr} {s : State} {ea v : Word} {f : Word → Word → Word} {F : Nat → Nat → Nat}
    (done : Word → Memory → Result) (hn : n ≤ 8) (hF : ComputesLow n f F)
    (hexec : exec i s
      = s.withAccess ea n .atomic (done (s.atomicRMW ea n (f · v)).1 (s.atomicRMW ea n (f · v)).2)) :
    AccessFaults i s ea n .atomic ∧
      (Admitted s ea n .atomic → ∃ m old, SameOutside s.mem m ea.toNat n ∧
        old.toNat = value s.params.hostEndian s.mem ea.toNat n ∧
        value s.params.hostEndian m ea.toNat n = F old.toNat (v.toNat % 2 ^ (8 * n)) ∧
        exec i s = done old m) := by
  refine ⟨accessFaults_of_exec hexec, fun hadmitted => ?_⟩
  have hok := State.refuses_of_admitted hadmitted
  obtain ⟨hfits, -⟩ := hadmitted
  obtain ⟨hsame, hold, hnew⟩ := s.atomicRMW_spec v hn hF hfits
  exact ⟨_, _, hsame, hold, hnew, hexec.trans (s.withAccess_admitted ea n .atomic _ hok)⟩

/-- An atomic without FETCH writes memory alone (rule R301). -/
theorem atomicOp_of_atomicOp {f : Word → Word → Word} {F : Nat → Nat → Nat} (hn : n ≤ 8) (hF : ComputesLow n f F)
    (hexec : ∀ dst src offset s, exec (mk dst src offset) s = atomicOp n f dst src offset s)
    (henc : ∀ dst src offset, Encoded (mk dst src offset) ⟨op, regBits dst, regBits src, offset, imm⟩ g) :
    AtomicOp n mk op imm g F := by
  refine ⟨atomicReads_of_exec hexec henc, fun dst src offset s base v hbase hv => ?_⟩
  obtain ⟨hfaults, hdone⟩ := atomicAccess_of_exec (fun _ m => .next ((s.setMem m).advance 1)) hn hF
    ((hexec dst src offset s).trans (State.withReg_values hbase hv))
  refine ⟨hfaults, fun hadmitted => ?_⟩
  obtain ⟨m, old, hsame, hold, hnew, hend⟩ := hdone hadmitted
  exact ⟨m, hsame, hold ▸ hnew, hend⟩

/-- An atomic with FETCH, or an exchange, also writes the old number to `src` (rule R301). -/
theorem atomicFetch_of_atomicFetch {f : Word → Word → Word} {F : Nat → Nat → Nat} (hn : n ≤ 8)
    (hF : ComputesLow n f F)
    (hexec : ∀ dst src offset s, exec (mk dst src offset) s = atomicFetch n f dst src offset s)
    (henc : ∀ dst src offset, Encoded (mk dst src offset) ⟨op, regBits dst, regBits src, offset, imm⟩ g) :
    AtomicFetch n mk op imm g F :=
  ⟨atomicReads_of_exec hexec henc, fun dst src offset s _ _ hbase hv =>
    atomicAccess_of_exec (fun old m => (s.setMem m).retire src old) hn hF
      ((hexec dst src offset s).trans (State.withReg_values hbase hv))⟩

/-- A compare and exchange reads R0 after the operands, and writes the old number there (rules R301, R408). -/
theorem atomicCmpxchg_of_atomicCmpxchg (hn : n ≤ 8)
    (hexec : ∀ dst src offset s, exec (mk dst src offset) s = atomicCmpxchg n dst src offset s)
    (henc : ∀ dst src offset, Encoded (mk dst src offset) ⟨op, regBits dst, regBits src, offset, imm⟩ g) :
    AtomicCmpxchg n mk op imm g := by
  refine ⟨atomicReads_of_exec hexec henc, fun dst src offset s base v hbase hv => ?_⟩
  have hoperands := (hexec dst src offset s).trans (State.withReg_values hbase hv)
  exact ⟨fun hnone => hoperands.trans (s.withReg_noValue 0 _ hnone), fun r0 hr0 =>
    atomicAccess_of_exec (fun old m => (s.setMem m).retire 0 old) hn (computesLow_compare n r0)
      (hoperands.trans (s.withReg_value 0 _ r0 hr0))⟩

end Forms

/-- Settles O48: each atomic without FETCH is one form, with its size and function. -/
theorem atomicsWithoutFetch : Obligations.AtomicsWithoutFetch :=
  ⟨atomicOp_of_atomicOp (by decide) (computesLow_on32 Alu.toNat_add) (fun _ _ _ _ => rfl)
      fun _ _ _ => encoded_of_encode rfl rfl rfl,
    atomicOp_of_atomicOp (by decide) (computesLow_on32 BitVec.toNat_or) (fun _ _ _ _ => rfl)
      fun _ _ _ => encoded_of_encode rfl rfl rfl,
    atomicOp_of_atomicOp (by decide) (computesLow_on32 BitVec.toNat_and) (fun _ _ _ _ => rfl)
      fun _ _ _ => encoded_of_encode rfl rfl rfl,
    atomicOp_of_atomicOp (by decide) (computesLow_on32 BitVec.toNat_xor) (fun _ _ _ _ => rfl)
      fun _ _ _ => encoded_of_encode rfl rfl rfl,
    atomicOp_of_atomicOp (by decide) (computesLow_word Alu.toNat_add) (fun _ _ _ _ => rfl)
      fun _ _ _ => encoded_of_encode rfl rfl rfl,
    atomicOp_of_atomicOp (by decide) (computesLow_word BitVec.toNat_or) (fun _ _ _ _ => rfl)
      fun _ _ _ => encoded_of_encode rfl rfl rfl,
    atomicOp_of_atomicOp (by decide) (computesLow_word BitVec.toNat_and) (fun _ _ _ _ => rfl)
      fun _ _ _ => encoded_of_encode rfl rfl rfl,
    atomicOp_of_atomicOp (by decide) (computesLow_word BitVec.toNat_xor) (fun _ _ _ _ => rfl)
      fun _ _ _ => encoded_of_encode rfl rfl rfl⟩

/-- Settles O49: each atomic with FETCH, and the exchange, is one form, with its size and function. -/
theorem atomicsWithFetch : Obligations.AtomicsWithFetch :=
  ⟨atomicFetch_of_atomicFetch (by decide) (computesLow_on32 Alu.toNat_add) (fun _ _ _ _ => rfl)
      fun _ _ _ => encoded_of_encode rfl rfl rfl,
    atomicFetch_of_atomicFetch (by decide) (computesLow_on32 BitVec.toNat_or) (fun _ _ _ _ => rfl)
      fun _ _ _ => encoded_of_encode rfl rfl rfl,
    atomicFetch_of_atomicFetch (by decide) (computesLow_on32 BitVec.toNat_and) (fun _ _ _ _ => rfl)
      fun _ _ _ => encoded_of_encode rfl rfl rfl,
    atomicFetch_of_atomicFetch (by decide) (computesLow_on32 BitVec.toNat_xor) (fun _ _ _ _ => rfl)
      fun _ _ _ => encoded_of_encode rfl rfl rfl,
    atomicFetch_of_atomicFetch (by decide) (computesLow_exchange 4) (fun _ _ _ _ => rfl)
      fun _ _ _ => encoded_of_encode rfl rfl rfl,
    atomicFetch_of_atomicFetch (by decide) (computesLow_word Alu.toNat_add) (fun _ _ _ _ => rfl)
      fun _ _ _ => encoded_of_encode rfl rfl rfl,
    atomicFetch_of_atomicFetch (by decide) (computesLow_word BitVec.toNat_or) (fun _ _ _ _ => rfl)
      fun _ _ _ => encoded_of_encode rfl rfl rfl,
    atomicFetch_of_atomicFetch (by decide) (computesLow_word BitVec.toNat_and) (fun _ _ _ _ => rfl)
      fun _ _ _ => encoded_of_encode rfl rfl rfl,
    atomicFetch_of_atomicFetch (by decide) (computesLow_word BitVec.toNat_xor) (fun _ _ _ _ => rfl)
      fun _ _ _ => encoded_of_encode rfl rfl rfl,
    atomicFetch_of_atomicFetch (by decide) (computesLow_exchange 8) (fun _ _ _ _ => rfl)
      fun _ _ _ => encoded_of_encode rfl rfl rfl⟩

/-- Settles O50: both sizes of the compare and exchange are one form. -/
theorem atomicCompareExchange : Obligations.AtomicCompareExchange :=
  ⟨atomicCmpxchg_of_atomicCmpxchg (by decide) (fun _ _ _ _ => rfl) fun _ _ _ => encoded_of_encode rfl rfl rfl,
    atomicCmpxchg_of_atomicCmpxchg (by decide) (fun _ _ _ _ => rfl) fun _ _ _ => encoded_of_encode rfl rfl rfl⟩

end Sys2Proof.Machine
end

section
/-! The 64-bit immediate instructions and their second slot (rules R330 to R338). -/

namespace Sys2Proof.Machine

open Sys2Proof.Spec

/-- Where the slots of an instruction stand at a boundary, the instruction is fetched if its group is there (rule R73). -/
theorem State.fetch_of_encodeSlots {s : State} {i : Instr} {rest : List Slot} (hwf : i.wellFormed = true)
    (hpc : Params.fetchable s.params s.pc = true)
    (hdrop : s.params.program.drop s.pc.toNat = encodeSlots s.params.hostEndian i ++ rest) :
    s.fetch = if i.group ∈ s.params.groups then .ok i else .error (.unsupportedGroup s.pc i.group) :=
  State.fetch_of_decoded hpc (hdrop ▸ decodeProgram_encodeSlots s.params.hostEndian i rest hwf)

/-- An instruction of two slots is decoded from the fields of both, and fetched where they stand in the program. -/
theorem encodedWide_of_encode {i : Instr} {f : Fields} {n : Word32} {g : Group} (hwf : i.wellFormed = true)
    (henc : encode i = [f, ⟨0, 0, 0, 0, n⟩]) (hg : i.group = g) : EncodedWide i f n g := by
  refine ⟨fun h next => ⟨fun hd => ?_, ?_⟩, hg, fun s rest hpc hdrop => ?_⟩
  · obtain ⟨-, hlaid⟩ := encodeOfDecode h next i hd
    obtain ⟨hfirst, hsecond⟩ := List.cons.inj (henc.symm.trans hlaid)
    split at hsecond
    · exact ⟨hfirst.symm, Option.toList_eq_singleton_iff.1 hsecond.symm⟩
    · cases hsecond
  · rintro ⟨rfl, rfl⟩
    obtain ⟨f', henc', -⟩ | ⟨f', f'', henc', hdec⟩ := decodesBack i hwf
    · cases henc.symm.trans henc'
    · cases henc.symm.trans henc'
      exact hdec
  · rw [← hg]
    exact State.fetch_of_encodeSlots hwf hpc (by rw [hdrop, encodeSlots, henc]; rfl)

/-- An instruction that asks the platform for an address writes it, or takes the fault (rule R330). -/
theorem addressLoad_of_loadAddress {i : Instr} {dst : Reg} {imm : Word32} {what : PlatformReason}
    {v : State → Option Word} (hexec : ∀ s, exec i s = s.loadAddress dst imm what (v s)) :
    AddressLoad i dst imm what v := by
  intro s
  obtain ⟨a, hv, hload⟩ | ⟨hv, hload⟩ := s.loadAddress_cases dst imm what (v s)
  · refine ⟨fun b hb => ?_, fun hnone => ?_⟩
    · cases hv.symm.trans hb
      exact (hexec s).trans hload
    · cases hv.symm.trans hnone
  · refine ⟨fun b hb => ?_, fun _ => (hexec s).trans hload⟩
    cases hv.symm.trans hb

/-- The value of LDDW has `next_imm` in bits 63:32 and `imm` in bits 31:0 (rule R331). -/
theorem toNat_concat_imm (next imm : Word32) : (next ++ imm).toNat = next.toNat * 2 ^ 32 + imm.toNat := by
  rw [BitVec.toNat_append, Nat.shiftLeft_eq, Nat.mul_comm, Nat.two_pow_add_eq_or_of_lt imm.isLt]

/-- Settles O51: LDDW writes its concatenation, and each other wide instruction is an address load. -/
theorem wideImmediateLoads : Obligations.WideImmediateLoads :=
  ⟨fun _ imm n => ⟨encodedWide_of_encode rfl rfl rfl, fun _ => ⟨n ++ imm, toNat_concat_imm n imm, rfl⟩⟩,
    fun _ _ => ⟨encodedWide_of_encode rfl rfl rfl, addressLoad_of_loadAddress fun _ => rfl⟩,
    fun _ _ _ => ⟨encodedWide_of_encode rfl rfl rfl, addressLoad_of_loadAddress fun _ => rfl⟩,
    fun _ _ => ⟨encodedWide_of_encode rfl rfl rfl, addressLoad_of_loadAddress fun _ => rfl⟩,
    fun _ _ => ⟨encodedWide_of_encode rfl rfl rfl, addressLoad_of_loadAddress fun _ => rfl⟩,
    fun _ _ => ⟨encodedWide_of_encode rfl rfl rfl, addressLoad_of_loadAddress fun _ => rfl⟩,
    fun _ _ _ => ⟨encodedWide_of_encode rfl rfl rfl, addressLoad_of_loadAddress fun _ => rfl⟩⟩

/-! The second slot (rules R73, R74, R338) -/

/-- What decoding a slot answers is never the pseudo instruction, which is not an instruction on its own. -/
theorem decodeFields_ne_secondSlot (f : Fields) (next : Option Fields) (n : Word32) :
    decodeFields f next ≠ .ok (.imm64SecondSlot n) := by
  intro h
  obtain ⟨hwf, -⟩ := encodeOfDecode f next _ h
  cases hwf

/-- Opcode 0x00 is none of Table O. -/
theorem decodeFields_zero {f : Fields} (next : Option Fields) (hop : f.opcode = 0) :
    decodeFields f next = .error .reserved := by
  obtain ⟨hreserved, -⟩ := reservedOpcodes
  exact hreserved f next (hop ▸ by decide)

/-- The sweep of rule R74 does not stop between the slots of a wide instruction. -/
theorem boundary_second {p : List Slot} {t : Nat} {w : Slot} (hb : boundary p t = true) (hw : p[t]? = some w)
    (hop : w.b0 = 0x18#8) : boundary p (t + 1) = false := by
  induction p, t using boundary.induct with
  | case1 => cases hb
  | case2 first rest =>
    cases hw
    cases rest <;> exact if_pos hop
  | case3 first n hwide => simp [boundary, hwide] at hb
  | case4 first hwide second rest => simp [boundary, hwide] at hb
  | case5 first hwide second rest n ih =>
    rw [boundary_wide second rest _ hwide] at hb ⊢
    exact ih hb hw
  | case6 first rest n hnarrow ih =>
    rw [boundary_narrow rest _ hnarrow] at hb ⊢
    exact ih hb hw

/-- A pc at the second slot of a wide instruction that the sweep reaches is not fetched from (rule R74). -/
theorem State.fetch_second {s : State} {t : Nat} {w : Slot} (ht : Sweep s.params.program t)
    (hw : s.params.program[t]? = some w) (hop : w.b0 = 0x18#8) (hpc : s.pc = t + 1) :
    s.fetch = .error (.badPc s.pc) := by
  obtain ⟨hlt, -⟩ := List.getElem?_eq_some_iff.1 hw
  have hsecond : boundary s.params.program (t + 1) = false := boundary_second (boundary_of_sweep ht hlt) hw hop
  refine State.fetch_of_not_fetchable (Params.not_fetchable (.inr ?_))
  rw [hpc]
  exact hsecond

/-- Settles O52: the pseudo instruction is read from a second slot alone, and no fetch is from one. -/
theorem secondSlotIsNeverAnInstruction : Obligations.SecondSlotIsNeverAnInstruction :=
  ⟨fun _ => ⟨rfl, rfl, rfl⟩, decodeFields_ne_secondSlot, fun _ => decodeFields_zero,
    fun _ _ _ => State.fetch_second, fun _ _ => rfl⟩

end Sys2Proof.Machine
end

section
/-! The entry state (Table R, rule R450): its registers, and the invariant there. -/

namespace Sys2Proof.Machine

/-- Each register at entry is looked up in `ENTRY_REGS`. -/
theorem RegFile.entry_getElem (regs : List (Reg × Word)) (r : Reg) : (RegFile.entry regs)[r] = regs.lookup r := by
  fin_cases r <;> rfl

/-- Settles O1: the call stack, the registers and the rest of the entry state are those of Table R. -/
theorem entryStateIsTableR : Obligations.EntryStateIsTableR :=
  fun p m => ⟨State.entry_pc p m, State.entry_cs p m, State.entry_mem p m, State.entry_status p m,
    State.entry_params p m, rfl, RegFile.entry_getElem p.entryRegs⟩

/-- Settles O2: the reset `ENTRY_REGS` lists each of the eleven registers with the value 0. -/
theorem resetStateOfTheModel : Obligations.ResetStateOfTheModel := by
  have hregs (r : Reg) : Params.default.entryRegs.lookup r = some 0 := by
    revert r
    decide
  exact ⟨rfl, fun r => (RegFile.entry_getElem _ r).trans (hregs r), rfl, rfl, rfl, rfl, rfl, rfl, rfl, rfl⟩

/-- With canonical memory the entry state meets the invariant: its call stack is empty. -/
theorem State.entry_inv (p : Params) {m : Memory} (hm : m.wf) : (State.entry p m).Inv where
  memory := hm
  depth d _ := Nat.zero_le d
  frames := by
    rw [State.entry_cs]
    exact List.forall_mem_nil _
  saved := by
    rw [State.entry_cs]
    exact List.forall_mem_nil _

/-- Settles O19: reset is the entry with nothing listed in memory, which is in canonical form. -/
theorem invariantHoldsAtReset : Obligations.InvariantHoldsAtReset :=
  ⟨State.entry_inv Params.default Memory.wf_nil, fun p _ hm => State.entry_inv p hm⟩

end Sys2Proof.Machine
end

section
/-! Faults as next states (rules R400, R411, R420), and the packet loads, which end in one (rules R350 to R356). -/

namespace Sys2Proof.Machine

open Sys2Proof.Spec

/-- Settles O15: after the environment's turn both an instruction and a fault of the fetch answer a next state. -/
theorem stepIsTotal : Obligations.StepIsTotal := by
  intro s hr hg
  rw [step_of_admissible s hr hg]
  exact s.environmentActs.runInstr_isNext

/-- An instruction that faults leaves all but the status as it was (rule R400). -/
theorem exec_faulted {i : Instr} {s t : State} {tr : Trap} (hr : s.status = .running) (h : exec i s = .next t)
    (hfault : t.status = .faulted tr) : t = s.raise tr := by
  obtain hsame | ⟨tr', rfl⟩ | ⟨-, -, rfl⟩ := exec_status_cases h
  · rw [hsame, hr] at hfault
    cases hfault
  · cases hfault
    rfl
  · cases hfault

/-- Settles O16: a step faults in the instruction or in its fetch, each time with the environment's turn done and
nothing else. -/
theorem faultChangesNothingElse : Obligations.FaultChangesNothingElse := by
  refine ⟨fun _ _ _ _ => exec_faulted, fun s t tr hstep hfault => ?_, fun s tr hs => ?_⟩
  · rw [afterEnvironment_eq]
    obtain ⟨hr, ⟨i, -, hx⟩ | ⟨tr', -, rfl⟩⟩ := step_next_cases hstep
    · exact exec_faulted (s.environmentActs_status.trans hr) hx hfault
    · cases hfault
      rfl
  · have hstopped : s.status ≠ .running := by
      rw [hs]
      nofun
    rw [step_of_not_running s hstopped, hs]

/-- Settles O53: each of the six is a one-slot instruction of group packet, and its arm is the fault. -/
theorem packetLoadsAreUnsupported : Obligations.PacketLoadsAreUnsupported :=
  ⟨fun _ => ⟨encoded_of_encode rfl rfl rfl, fun _ => rfl⟩,
    fun _ => ⟨encoded_of_encode rfl rfl rfl, fun _ => rfl⟩,
    fun _ => ⟨encoded_of_encode rfl rfl rfl, fun _ => rfl⟩,
    fun _ _ => ⟨encoded_of_encode rfl rfl rfl, fun _ => rfl⟩,
    fun _ _ => ⟨encoded_of_encode rfl rfl rfl, fun _ => rfl⟩,
    fun _ _ => ⟨encoded_of_encode rfl rfl rfl, fun _ => rfl⟩⟩

end Sys2Proof.Machine
end

section
/-! The order in which an instruction reads its registers (rules R408, R409): `exec_readsFirst` says of every
instruction that it reads those of `reads` one after another, and raises no UnwrittenRegister after that. -/

namespace Sys2Proof.Machine

open Sys2Proof.Spec

/-- The outcome raises no UnwrittenRegister in `s`. -/
def RaisesNoUnwritten (s : State) (result : Result) : Prop := ∀ r, result ≠ .next (s.raise (.unwrittenRegister r))

/-- The outcome comes from reading these registers of `s` in order, and raises no UnwrittenRegister once each of them
has given a value. -/
inductive ReadsFirst (s : State) : List Reg → Result → Prop
  | done {result : Result} (h : RaisesNoUnwritten s result) : ReadsFirst s [] result
  | read {r : Reg} {rest : List Reg} {k : Word → Result} (h : ∀ v, ReadsFirst s rest (k v)) :
      ReadsFirst s (r :: rest) (s.withReg r k)

namespace ReadsFirst

variable {s : State} {result : Result}

/-- The first register without a value raises UnwrittenRegister. -/
theorem unwritten {r : Reg} {pre post : List Reg} (h : ReadsFirst s (pre ++ r :: post) result)
    (hpre : ∀ q ∈ pre, s.regs[q] ≠ none) (hr : s.regs[r] = none) :
    result = .next (s.raise (.unwrittenRegister r)) := by
  induction pre generalizing result with
  | nil =>
    cases h
    exact s.withReg_noValue r _ hr
  | cons q pre ih =>
    cases h with
    | read hk =>
      obtain ⟨hq, hpre⟩ := List.forall_mem_cons.1 hpre
      obtain ⟨v, hv⟩ := Option.ne_none_iff_exists'.1 hq
      rw [s.withReg_value q _ v hv]
      exact ih (hk v) hpre

/-- UnwrittenRegister is raised exactly where one of the registers holds no value. -/
theorem raisesNoUnwritten_iff {rs : List Reg} (h : ReadsFirst s rs result) :
    RaisesNoUnwritten s result ↔ ∀ q ∈ rs, s.regs[q] ≠ none := by
  induction h with
  | done h => exact ⟨fun _ => List.forall_mem_nil _, fun _ => h⟩
  | @read r rest k _ ih =>
    rw [List.forall_mem_cons]
    obtain ⟨v, hr, hread⟩ | ⟨hr, hraise⟩ := s.withReg_cases r k
    · have hv : s.regs[r] ≠ none := Option.ne_none_iff_exists'.2 ⟨v, hr⟩
      rw [hread, ih v, and_iff_right hv]
    · exact ⟨fun h => (h r hraise).elim, fun ⟨hv, _⟩ => (hv hr).elim⟩

end ReadsFirst

/-! What an instruction does once its registers are read -/

section AfterReads

variable {s : State}

/-- A completed instruction has moved the counter (log entry 11), which a fault does not. -/
theorem readsFirst_completed {t : State} (h : t.ticks = s.ticks + 1) : ReadsFirst s [] (.next t) := by
  refine .done fun r hraise => ?_
  obtain rfl := Host.Outcome.next.inj hraise
  exact Nat.succ_ne_self _ h.symm

theorem readsFirst_trap {tr : Trap} (h : ∀ r, tr ≠ .unwrittenRegister r) : ReadsFirst s [] (s.trap tr) := by
  refine .done fun r hraise => h r ?_
  have hstatus := congrArg State.status (Host.Outcome.next.inj hraise)
  exact Status.faulted.inj hstatus

theorem readsFirst_withAccess {ea : Word} {n : Nat} {kind : AccessKind} {k : Result} (h : ReadsFirst s [] k) :
    ReadsFirst s [] (s.withAccess ea n kind k) := by
  obtain ⟨-, hk⟩ | ⟨_, -, hf⟩ := s.withAccess_cases ea n kind k
  · rw [hk]
    exact h
  · exact hf ▸ readsFirst_trap nofun

theorem readsFirst_branch {taken : Bool} {offset : BitVec 16} : ReadsFirst s [] (s.branch taken offset) := by
  cases taken <;> exact readsFirst_completed rfl

theorem readsFirst_loadAddress {dst : Reg} {imm : Word32} {what : PlatformReason} {v : Option Word} :
    ReadsFirst s [] (s.loadAddress dst imm what v) := by
  obtain ⟨_, -, ha⟩ | ⟨-, hf⟩ := s.loadAddress_cases dst imm what v
  · exact ha ▸ readsFirst_completed rfl
  · exact hf ▸ readsFirst_trap nofun

theorem readsFirst_callPlatform {site : FreeSite} {table : List (Word32 × HelperRel)} {imm : Word32} :
    ReadsFirst s [] (s.callPlatform site table imm) := by
  obtain ⟨-, hf⟩ | ⟨_, -, ⟨-, hf⟩ | ⟨_, -, hy⟩⟩ := s.callPlatform_cases site table imm
  · exact hf ▸ readsFirst_trap nofun
  · exact hf ▸ readsFirst_trap nofun
  · exact hy ▸ readsFirst_completed rfl

theorem readsFirst_callLocal {imm : Word32} : ReadsFirst s [] (execCallLocal imm s) := by
  unfold execCallLocal
  split
  · exact readsFirst_trap nofun
  · exact readsFirst_completed rfl

theorem readsFirst_exit : ReadsFirst s [] (execExit s) := by
  unfold execExit
  split
  · refine .done fun r hraise => ?_
    have hstatus := congrArg State.status (Host.Outcome.next.inj hraise)
    cases hstatus
  · exact readsFirst_completed rfl

end AfterReads

/-- Every instruction reads the registers its rule names in the order destination, source, R0, before anything else. -/
theorem exec_readsFirst (i : Instr) (s : State) : ReadsFirst s (reads i) (exec i s) := by
  cases i with
  | add32K _ _ | sub32K _ _ | mul32K _ _ | div32K _ _ | sdiv32K _ _ | or32K _ _ | and32K _ _ | lsh32K _ _
  | rsh32K _ _ | mod32K _ _ | smod32K _ _ | xor32K _ _ | arsh32K _ _ | add64K _ _ | sub64K _ _ | mul64K _ _
  | div64K _ _ | sdiv64K _ _ | or64K _ _ | and64K _ _ | lsh64K _ _ | rsh64K _ _ | mod64K _ _ | smod64K _ _
  | xor64K _ _ | arsh64K _ _ | neg32 _ | neg64 _ | mov32X _ _ | movsx32_8 _ _ | movsx32_16 _ _ | mov64X _ _
  | movsx64_8 _ _ | movsx64_16 _ _ | movsx64_32 _ _ | le16 _ | le32 _ | le64 _ | be16 _ | be32 _ | be64 _
  | bswap16 _ | bswap32 _ | bswap64 _ =>
    exact .read fun _ => readsFirst_completed rfl
  | add32X _ _ | sub32X _ _ | mul32X _ _ | div32X _ _ | sdiv32X _ _ | or32X _ _ | and32X _ _ | lsh32X _ _
  | rsh32X _ _ | mod32X _ _ | smod32X _ _ | xor32X _ _ | arsh32X _ _ | add64X _ _ | sub64X _ _ | mul64X _ _
  | div64X _ _ | sdiv64X _ _ | or64X _ _ | and64X _ _ | lsh64X _ _ | rsh64X _ _ | mod64X _ _ | smod64X _ _
  | xor64X _ _ | arsh64X _ _ =>
    exact .read fun _ => .read fun _ => readsFirst_completed rfl
  | mov32K _ _ | mov64K _ _ | ja _ | ja32 _ | lddw _ _ _ => exact readsFirst_completed rfl
  | jeq64K _ _ _ | jgt64K _ _ _ | jge64K _ _ _ | jset64K _ _ _ | jne64K _ _ _ | jsgt64K _ _ _ | jsge64K _ _ _
  | jlt64K _ _ _ | jle64K _ _ _ | jslt64K _ _ _ | jsle64K _ _ _ | jeq32K _ _ _ | jgt32K _ _ _ | jge32K _ _ _
  | jset32K _ _ _ | jne32K _ _ _ | jsgt32K _ _ _ | jsge32K _ _ _ | jlt32K _ _ _ | jle32K _ _ _ | jslt32K _ _ _
  | jsle32K _ _ _ =>
    exact .read fun _ => readsFirst_branch
  | jeq64X _ _ _ | jgt64X _ _ _ | jge64X _ _ _ | jset64X _ _ _ | jne64X _ _ _ | jsgt64X _ _ _ | jsge64X _ _ _
  | jlt64X _ _ _ | jle64X _ _ _ | jslt64X _ _ _ | jsle64X _ _ _ | jeq32X _ _ _ | jgt32X _ _ _ | jge32X _ _ _
  | jset32X _ _ _ | jne32X _ _ _ | jsgt32X _ _ _ | jsge32X _ _ _ | jlt32X _ _ _ | jle32X _ _ _ | jslt32X _ _ _
  | jsle32X _ _ _ =>
    exact .read fun _ => .read fun _ => readsFirst_branch
  | callHelper _ | callBtf _ => exact readsFirst_callPlatform
  | callLocal _ => exact readsFirst_callLocal
  | exit => exact readsFirst_exit
  | ldxw _ _ _ | ldxh _ _ _ | ldxb _ _ _ | ldxdw _ _ _ | ldxsw _ _ _ | ldxsh _ _ _ | ldxsb _ _ _
  | stw _ _ _ | sth _ _ _ | stb _ _ _ | stdw _ _ _ =>
    exact .read fun _ => readsFirst_withAccess (readsFirst_completed rfl)
  | stxw _ _ _ | stxh _ _ _ | stxb _ _ _ | stxdw _ _ _ | atomicAdd32 _ _ _ | atomicOr32 _ _ _
  | atomicAnd32 _ _ _ | atomicXor32 _ _ _ | atomicAdd64 _ _ _ | atomicOr64 _ _ _ | atomicAnd64 _ _ _
  | atomicXor64 _ _ _ | atomicFetchAdd32 _ _ _ | atomicFetchOr32 _ _ _ | atomicFetchAnd32 _ _ _
  | atomicFetchXor32 _ _ _ | atomicXchg32 _ _ _ | atomicFetchAdd64 _ _ _ | atomicFetchOr64 _ _ _
  | atomicFetchAnd64 _ _ _ | atomicFetchXor64 _ _ _ | atomicXchg64 _ _ _ =>
    exact .read fun _ => .read fun _ => readsFirst_withAccess (readsFirst_completed rfl)
  | atomicCmpxchg32 _ _ _ | atomicCmpxchg64 _ _ _ =>
    exact .read fun _ => .read fun _ => .read fun _ => readsFirst_withAccess (readsFirst_completed rfl)
  | ldMapFd _ _ | ldVarAddr _ _ | ldCodeAddr _ _ | ldMapIdx _ _ | ldMapValFd _ _ _ | ldMapValIdx _ _ _ =>
    exact readsFirst_loadAddress
  | imm64SecondSlot _ | ldabsw _ | ldabsh _ | ldabsb _ | ldindw _ _ | ldindh _ _ | ldindb _ _ =>
    exact readsFirst_trap nofun

/-! The statement of rule R408 -/

/-- Writing a value to a register leaves no register without one. -/
theorem State.setReg_written {s : State} (h : ∀ r : Reg, s.regs[r] ≠ none) (dst : Reg) (v : Word) (r : Reg) :
    (s.setReg dst v).regs[r] ≠ none := by
  change (s.setReg dst v).reg r ≠ none
  rw [State.reg_setReg]
  split
  · nofun
  · exact h r

/-- No instruction but a helper call takes a value away from a register where `CALL_ABI` and the frames do nothing to
registers. -/
theorem exec_keeps_written {i : Instr} {s t : State} (hi : NoHelper i) (hbare : s.params.callAbi = CallAbi.bare)
    (hframes : ∀ f ∈ s.cs, f.saved = []) (h : ∀ r : Reg, s.regs[r] ≠ none) (hexec : exec i s = .next t) :
    ∀ r : Reg, t.regs[r] ≠ none := by
  cases exec_next_effect hexec with
  | fault | goto | stored | atomic | exited => exact h
  | wrote dst v => exact State.setReg_written h dst v
  | loaded ea n dst v => exact State.setReg_written (s := s.setMem _) h dst v
  | atomicFetched ea n f dst v => exact State.setReg_written (s := s.setMem _) h dst v
  | helper imm _ _ _ isCall => exact (isCall.elim (hi imm).1 (hi imm).2).elim
  | call => rwa [State.call_regs_bare s _ hbare]
  | ret frame rest _ frames =>
    rwa [State.ret_regs_bare s frame rest hbare (hframes frame (frames ▸ List.mem_cons_self))]

/-- Settles O54: every instruction first reads the registers of its rule in order, and each part follows from that and
from what an instruction leaves of the registers. -/
theorem readsCheckedInOrder : Obligations.ReadsCheckedInOrder := by
  refine ⟨fun i s r pre post hreads hpre hr => ?_, fun i s t hrun hreads hexec r hfault => ?_,
    fun i s t hexec hsafe => ?_, fun _ _ _ => exec_keeps_written⟩
  · exact (hreads ▸ exec_readsFirst i s).unwritten hpre hr
  · refine (exec_readsFirst i s).raisesNoUnwritten_iff.2 hreads r ?_
    rw [hexec, exec_faulted hrun hexec hfault]
  · refine (exec_readsFirst i s).raisesNoUnwritten_iff.1 fun r hraise => ?_
    rw [hexec] at hraise
    obtain rfl := Host.Outcome.next.inj hraise
    exact hsafe _ rfl

end Sys2Proof.Machine
end
